-- ==== Sys2Proof/Word.lean ====
section
/-!
DEFINITION. The plain types of the module's ports and quantities: bytes of a frame, port and position numbers
(00_scope.md 7.1) and the millisecond clock.
-/

namespace Sys2Proof

/-- One byte of a frame (R192). -/
abbrev Byte := BitVec 8

/-- A moment of the module's clock, or a duration, in milliseconds. -/
abbrev Time := Nat

/-- Desk 0 to 15. -/
abbrev Desk := Fin 16

/-- Source 0 to 23. -/
abbrev Source := Fin 24

/-- Head 0 to 3 within a source. -/
abbrev HeadIx := Fin 4

/-- Screen 0 to 3 within a desk. -/
abbrev ScreenIx := Fin 4

/-- Quality tier 0 to 3 (R51). -/
abbrev Tier := Fin 4

/-- Staging slot 0 to 3 (R151). -/
abbrev SlotIx := Fin 4

/-- Preset 0 to 31 (R184). -/
abbrev PresetIx := Fin 32

/-- Connection handle: 0 to 63 resident, 64 to 79 transfer (R1). -/
abbrev Handle := Nat

/-- A head of the room, `source.head`. -/
structure HeadId where
  source : Source
  head : HeadIx
  deriving DecidableEq, Repr

/-- A desk screen of the room, `desk.screen`. -/
structure ScreenId where
  desk : Desk
  screen : ScreenIx
  deriving DecidableEq, Repr

/-- A video format: width in pixels, height in lines, refresh in whole Hz, depth in bits (02, section 2.2). -/
structure Format where
  width : Nat
  height : Nat
  refresh : Nat
  depth : Nat
  deriving DecidableEq, Repr

/-- One of the module's three kinds of line (00_scope.md section 2). -/
inductive Line where
  | supervisory
  | desk (d : Desk)
  | source (s : Source)
  deriving DecidableEq, Repr

end Sys2Proof
end

