-- ==== Sys2Proof/Config.lean ====
section
/-!
DEFINITION. What the module fixes for good (capacities, fixed periods, factory defaults) and the values the spec leaves
open, which are opaque constants: nothing can prove which value they have.
-/

namespace Sys2Proof.Config

/-- Capacity of a desk link in BU (R55). -/
def deskCapacity : Nat := 200

/-- Capacity of a source link in BU (R55). -/
def sourceCapacity : Nat := 160

/-- The initial period of a link after a descriptor, 10 s (R36, R118). -/
def initialPeriod : Time := 10000

/-- The settle time of a head, 300 ms (02, section 2.2). -/
def settleTime : Time := 300

/-- The tier change timer, 500 ms (R52). -/
def tierChangeTime : Time := 500

/-- The longest gap between two bytes of a supervisory frame, 100 ms (R193). -/
def interByteGap : Time := 100

/-- The largest payload of a frame (R192). -/
def maxPayload : Nat := 248

/-- The start code of a frame (R192). -/
def startCode : Byte := 0xA5

/-- Entries of an input queue (R108). -/
def inputQueueCapacity : Nat := 16

/-- Claims of a claim queue (R78). -/
def claimQueueCapacity : Nat := 4

/-- Notices of a notice list (R133). -/
def noticeCapacity : Nat := 4

/-- Counts of a POINTER movement saturate here (R105). -/
def moveLimit : Int := 2047

/-- Steps of a POINTER wheel saturate here (R105). -/
def wheelLimit : Int := 127

/-- Module version and revision answered by VERSION (R169). -/
def version : Byte := 1

/-- See `version`. -/
def revision : Byte := 0

/-- Bound on the deferred work one taking carries out; work beyond it is left standing in the state and is taken up at
the end of the next taking.  Log entry 3. -/
def settleFuel : Nat := 4096

/-- FREE VALUE: the request number echoed when a desk request of wrong length carries no payload byte at all, so that it
has no request number (R194 and R195 state none).  Log entry 20. -/
opaque emptyRequestNumber : Byte → Byte

/-- FREE VALUE: whether a TAKE preempt-flag byte other than 0 and 1 counts as set (R196 gives 0 and 1 alone, and R83 does
not check it).  Log entry 21. -/
opaque oddPreemptFlag : Byte → Bool

end Sys2Proof.Config
end

