-- ==== Sys2Proof/Machine/Settings.lean ====
section
/-!
DEFINITION. The settings and layouts that the Configuration Store keeps (R183, R184), their images and the check value
of an image (R185).
-/

namespace Sys2Proof.Machine

/-- A level of the rights matrix, lowest first (R79). -/
inductive Right where
  | noRight | view | share | control | priv
  deriving DecidableEq, Repr

/-- The code of a level in the settings image (R185): its place in the order of R79. -/
def Right.code : Right → Nat
  | .noRight => 0
  | .view => 1
  | .share => 2
  | .control => 3
  | .priv => 4

/-- The level a code names (R185, R198). -/
def Right.ofCode : Nat → Option Right
  | 0 => some .noRight
  | 1 => some .view
  | 2 => some .share
  | 3 => some .control
  | 4 => some .priv
  | _ => none

/-- Each level includes the uses of those below it (R79). -/
def Right.atLeast (r need : Right) : Bool := need.code ≤ r.code

/-- A desk's settings: rank 0 to 7, link timeout and grace period in seconds (R117, R171). -/
structure DeskSettings where
  rank : Nat
  linkTimeout : Nat
  grace : Nat
  deriving DecidableEq, Repr

/-- A source's settings: link timeout and control timeout in seconds, share interval in milliseconds (R172). -/
structure SourceSettings where
  linkTimeout : Nat
  tierLimit : Tier
  preferredTier : Tier
  controlTimeout : Nat
  shareInterval : Nat
  deriving DecidableEq, Repr

/-- The room's settings: house rate in Hz, lock timeout in milliseconds, restoration delay and arm hold in seconds
(R173). -/
structure RoomSettings where
  houseRate : Nat
  lockTimeout : Nat
  restorationDelay : Nat
  armHold : Nat
  startPreset : Option PresetIx
  deriving DecidableEq, Repr

/-- The settings that the configuration commands write and the settings region saves (R183). -/
structure Settings where
  desks : Vector DeskSettings 16
  sources : Vector SourceSettings 24
  rights : Vector (Vector Right 24) 16
  room : RoomSettings
  deriving DecidableEq, Repr

/-- The factory defaults (R183). -/
def Settings.factory : Settings where
  desks := Vector.replicate 16 { rank := 0, linkTimeout := 3, grace := 60 }
  sources := Vector.replicate 24
    { linkTimeout := 3, tierLimit := 3, preferredTier := 0, controlTimeout := 120, shareInterval := 800 }
  rights := Vector.replicate 16 (Vector.replicate 24 .control)
  room := { houseRate := 60, lockTimeout := 400, restorationDelay := 2, armHold := 60, startPreset := none }

/-- The target of a staging entry: a head, or BLANK (R152). -/
inductive Target where
  | head (h : HeadId)
  | blank
  deriving DecidableEq, Repr

/-- A staging entry (R152), which is also an entry of a preset (R184). -/
structure StageEntry where
  screen : ScreenId
  target : Target
  deriving DecidableEq, Repr

/-- A number of two bytes, low byte first (R185, R192). -/
def le16 (n : Nat) : List Byte := [BitVec.ofNat 8 n, BitVec.ofNat 8 (n / 256)]

/-- A number of three bytes, low byte first (R199). -/
def le24 (n : Nat) : List Byte := [BitVec.ofNat 8 n, BitVec.ofNat 8 (n / 256), BitVec.ofNat 8 (n / 65536)]

/-- A number of one byte. -/
def byte (n : Nat) : Byte := BitVec.ofNat 8 n

/-- The image of a desk's settings, 4 bytes (R185). -/
def DeskSettings.image (d : DeskSettings) : List Byte := [byte d.rank, byte d.linkTimeout] ++ le16 d.grace

/-- The image of a source's settings, 7 bytes (R185). -/
def SourceSettings.image (s : SourceSettings) : List Byte :=
  [byte s.linkTimeout, byte s.tierLimit, byte s.preferredTier] ++ le16 s.controlTimeout ++ le16 s.shareInterval

/-- The start preset's byte: its number, or 255 for none (R185). -/
def startPresetByte : Option PresetIx → Byte
  | some p => byte p
  | none => 255

/-- The image of the room's settings, 7 bytes (R185). -/
def RoomSettings.image (r : RoomSettings) : List Byte :=
  [byte r.houseRate] ++ le16 r.lockTimeout ++ [byte r.restorationDelay] ++ le16 r.armHold
    ++ [startPresetByte r.startPreset]

/-- The settings image: the fields of R183 in their order, 623 bytes (R185). -/
def Settings.image (s : Settings) : List Byte :=
  (s.desks.toList.flatMap (·.image)) ++ (s.sources.toList.flatMap (·.image))
    ++ (s.rights.toList.flatMap fun row => row.toList.map fun r => byte r.code) ++ s.room.image

/-- A layout entry, 5 bytes (R185, R197): the source and head are 0 for a BLANK target. -/
def StageEntry.image (e : StageEntry) : List Byte :=
  match e.target with
  | .head h => [byte e.screen.desk, byte e.screen.screen, 0, byte h.source, byte h.head]
  | .blank => [byte e.screen.desk, byte e.screen.screen, 1, 0, 0]

/-- A preset image: the entry count, then 5 bytes per entry (R185). -/
def presetImage (es : List StageEntry) : List Byte := byte es.length :: es.flatMap (·.image)

/-- One shift of the check register toward its low end (R185). -/
def crcShift (r : Nat) : Nat := if r % 2 = 1 then (r / 2) ^^^ 0xA001 else r / 2

/-- The check register after one more byte (R185). -/
def crcByte (r : Nat) (b : Byte) : Nat :=
  crcShift (crcShift (crcShift (crcShift (crcShift (crcShift (crcShift (crcShift (r ^^^ b.toNat))))))))

/-- The check value of an image (R185). -/
def checkValue (image : List Byte) : Nat := image.foldl crcByte 0

end Sys2Proof.Machine
end

