-- ==== Sys2Proof/Syntax.lean ====
section
/-!
DEFINITION. The commands of the module: one constructor per row of spec/opcode_table.json.  A row that is a frame carries
the line it arrives on and the payload bytes of the accepted frame (Chapter 11), so that every payload a line can carry,
right or wrong, is a command.  A row that is a timer's expiry or another event carries the port or position concerned.
-/

namespace Sys2Proof

inductive Instr where
  -- power, receivers
  | powerUp
  /-- `broken`: the last byte lacked its stop bit, which only the supervisory line's bytes can (R193) -/
  | malformedFrame (line : Line) (bytes : List Byte) (broken : Bool)
  | interByteGapExpiry
  -- source link frames and events
  | sourceDescriptor (src : Source) (payload : List Byte)
  | sourceHeartbeat (src : Source) (payload : List Byte)
  | headFormat (src : Source) (payload : List Byte)
  | tierAck (src : Source) (payload : List Byte)
  | ledState (src : Source) (payload : List Byte)
  | sourceUnknownKind (src : Source) (kind : Byte) (payload : List Byte)
  | sourceInitialTimerExpiry (src : Source)
  | sourceSilenceTimerExpiry (src : Source)
  | sourceLinkLoss (src : Source)
  | settleTimerExpiry (src : Source) (head : HeadIx)
  | tierChangeTimerExpiry (src : Source) (head : HeadIx)
  | transmitterComplete (src : Source)
  -- desk link frames and events
  | deskDescriptor (desk : Desk) (payload : List Byte)
  | deskHeartbeat (desk : Desk) (payload : List Byte)
  | locked (desk : Desk) (payload : List Byte)
  | unlocked (desk : Desk) (payload : List Byte)
  | keys (desk : Desk) (payload : List Byte)
  | pointer (desk : Desk) (payload : List Byte)
  | connect (desk : Desk) (payload : List Byte)
  | disconnect (desk : Desk) (payload : List Byte)
  | scan (desk : Desk) (payload : List Byte)
  | recall (desk : Desk) (payload : List Byte)
  | take (desk : Desk) (payload : List Byte)
  | share (desk : Desk) (payload : List Byte)
  | release (desk : Desk) (payload : List Byte)
  | withdraw (desk : Desk) (payload : List Byte)
  | noticeAck (desk : Desk) (payload : List Byte)
  | queryScreen (desk : Desk) (payload : List Byte)
  | querySource (desk : Desk) (payload : List Byte)
  | queryDesk (desk : Desk) (payload : List Byte)
  | deskUnknownKind (desk : Desk) (kind : Byte) (payload : List Byte)
  | deskInitialTimerExpiry (desk : Desk)
  | deskSilenceTimerExpiry (desk : Desk)
  | deskLinkLoss (desk : Desk)
  | graceTimerExpiry (desk : Desk)
  -- fabric, arbiter, budget, scan and stager events
  | lockTimerExpiry (desk : Desk) (screen : ScreenIx)
  | houseFrameEvent
  | controlTimeoutReached (src : Source)
  | restorationDelayExpiry
  | dwellExpiry (desk : Desk) (screen : ScreenIx)
  | armHoldTimerExpiry (slot : SlotIx)
  -- supervisory line
  | ping (payload : List Byte)
  | version (payload : List Byte)
  | busy (kind : Byte) (payload : List Byte)
  | supervisoryUnknownKind (kind : Byte) (payload : List Byte)
  | setDesk (payload : List Byte)
  | setRights (payload : List Byte)
  | setSource (payload : List Byte)
  | setRoom (payload : List Byte)
  | forceConnect (payload : List Byte)
  | forceDisconnect (payload : List Byte)
  | forceRelease (payload : List Byte)
  | portReset (payload : List Byte)
  | stageLoad (payload : List Byte)
  | stageClear (payload : List Byte)
  | arm (payload : List Byte)
  | commit (payload : List Byte)
  | disarm (payload : List Byte)
  | presetToStage (payload : List Byte)
  | stageToPreset (payload : List Byte)
  /-- the write's read-back matched, or not (R187) -/
  | presetWriteComplete (matched : Bool)
  | saveSettings (payload : List Byte)
  /-- the save's read-back matched, or not (R186) -/
  | settingsSaveComplete (matched : Bool)
  | presetErase (payload : List Byte)
  | presetEraseComplete
  | presetBlank (payload : List Byte)
  | storeCheck (payload : List Byte)
  | listConnections (payload : List Byte)
  | deskStatus (payload : List Byte)
  | sourceStatus (payload : List Byte)
  | budget (payload : List Byte)
  | changes (payload : List Byte)
  | lock (payload : List Byte)
  | unlock (payload : List Byte)
  | durationTimerExpiry
  | restart (payload : List Byte)
  | powerFail
  deriving DecidableEq, Repr

end Sys2Proof
end

