-- ==== Sys2Proof/Machine/State.lean ====
section
/-!
DEFINITION. Everything the spec gives the module, as plain data, and the state after reset.  A field that is present only
in some states of a record is carried by that state's constructor, so that it cannot stand where the spec says it is absent.
-/

namespace Sys2Proof.Machine

/-! ## Connection Table and Crosspoint Fabric (Chapter 1) -/

/-- Why a record is SUSPENDED (R1). -/
inductive SuspendReason where
  | budget | privacy | deskAbsent
  deriving DecidableEq, Repr

/-- The states of a connection record, with the suspend reason in SUSPENDED (R1). -/
inductive RecordState where
  | waiting | admitting | switching | live
  | suspended (reason : SuspendReason)
  | fault
  deriving DecidableEq, Repr

/-- How a record came about (R2). -/
inductive Origin where
  | desk | supervisor | salvo | scan | start
  deriving DecidableEq, Repr

/-- The dwell timer of a scan with the dwell remaining it determines (R140): NOT_STARTED, RUNNING until a moment, or FROZEN
with the time left. -/
inductive DwellTimer where
  | notStarted
  | running (due : Time)
  | frozen (left : Time)
  deriving DecidableEq, Repr

/-- A scan sub-record (R140).  `index` counts from 1; `dwell` is in seconds. -/
structure Scan where
  list : List HeadId
  index : Nat
  dwell : Nat
  timer : DwellTimer
  paused : Bool
  deriving DecidableEq, Repr

/-- Who awaits the answer of a requested bring-up. -/
inductive Requester where
  | desk | force
  deriving DecidableEq, Repr

/-- The automatic bring-up in flight on a record: a re-admission (R28), a resumption (R71), a scan step (R145), or the lock
of a record that a commit created (R164). -/
inductive Automatic where
  | readmission | resumption | step | commit
  deriving DecidableEq, Repr

/-- The bring-up steps that a record rests in (R2). -/
inductive BringUpStep where
  | admission | switch | lock
  deriving DecidableEq, Repr

/-- A connection record (R1).  The last four fields are the model's: whose request the record's bring-up answers, which
automatic bring-up is in flight, whether a replacement record has posted (R21), and the state an in-place re-admission
returns to (R17). -/
structure Conn where
  handle : Handle
  screen : ScreenId
  head : HeadId
  state : RecordState
  reservation : Nat
  origin : Origin
  step : Option BringUpStep
  scan : Option Scan
  replaces : Option Handle
  answerTo : Option Requester
  auto : Option Automatic
  posted : Bool
  prior : Option RecordState
  deriving DecidableEq, Repr

/-- The cards of the fabric (R7). -/
inductive Card where
  | blank | noSignal | outOfRange | bandwidth | privacy | fault
  deriving DecidableEq, Repr

/-- The content of a screen: a route to a head, or a card (R7). -/
inductive Content where
  | route (h : HeadId)
  | card (c : Card)
  deriving DecidableEq, Repr

/-- One position of the fabric: its crosspoint map entry (R7), the pending change for it (R8) and its lock timer (R11). -/
structure Position where
  shown : Content
  pending : Option Content
  lockTimer : Option Time
  deriving DecidableEq, Repr

/-- What put a record on the re-admission list (R28). -/
inductive Trigger where
  | headActive | deskReturn | privacyChange | commit
  deriving DecidableEq, Repr

/-- An entry of the re-admission list (R28). -/
structure Readmit where
  handle : Handle
  trigger : Trigger
  deriving DecidableEq, Repr

/-! ## Source links and heads (Chapter 2) -/

/-- The states of a source link (02, section 2.1). -/
inductive SourceLinkState where
  | down | initial | up
  deriving DecidableEq, Repr

/-- A head record (02, section 2.2): the format in every state but ABSENT, the settle timer running in SETTLING only. -/
inductive HeadRecord where
  | absent
  | settling (f : Format) (due : Time)
  | active (f : Format)
  | unsupported (f : Format)
  deriving DecidableEq, Repr

/-- A source link record with its four head records (02, sections 2.1 and 2.2). -/
structure SourceLink where
  link : SourceLinkState
  headCount : Nat
  initialTimer : Option Time
  silenceTimer : Option Time
  frameSince : Bool
  heads : Vector HeadRecord 4
  deriving DecidableEq, Repr

/-! ## Budget Unit (Chapter 3) -/

/-- Who opened a tier change: an admission, named by its number, or restoration (R52). -/
inductive ChangeOrigin where
  | admission (id : Nat)
  | restoration
  deriving DecidableEq, Repr

/-- A tier change in flight with the moment its timer expires (R52, R65). -/
structure TierChange where
  old : Tier
  new : Tier
  origin : ChangeOrigin
  due : Time
  deriving DecidableEq, Repr

/-- A tier record (R52).  The admission hold of a head is the set of admissions of `State.admissions` that place it. -/
structure TierRecord where
  tier : Tier
  raw : Option Nat
  change : Option TierChange
  lastNamed : Option Tier
  deriving DecidableEq, Repr

/-- A placement of an admission: a head to be put on a screen (R57). -/
structure Placement where
  head : HeadId
  screen : ScreenId
  deriving DecidableEq, Repr

/-- For what an admission was asked: a record's bring-up, a slot's arming (R156) or its revalidation (R161). -/
inductive AdmissionOwner where
  | record (h : Handle)
  | arming (slot : SlotIx)
  | revalidation (slot : SlotIx)
  deriving DecidableEq, Repr

/-- What a standing admission waits for: the changes it issued (R59), changes it did not issue (R61), or nothing more, since
a change of its own on the head named timed out or was abandoned (R60, R68). -/
inductive AdmissionPhase where
  | own
  | others (heads : List HeadId)
  | failed (head : HeadId)
  deriving DecidableEq, Repr

/-- An admission in flight (R57 to R63). -/
structure Admission where
  id : Nat
  owner : AdmissionOwner
  placements : List Placement
  phase : AdmissionPhase
  deriving DecidableEq, Repr

/-- A restoration walk (R73): the place in (source, head) order, 0 to 96, of the next head to test; the head whose change it
waits for; the head it has stopped at under a room lock with TIERS (R74); whether a change of this pass was acknowledged; the
heads that timed out in this pass. -/
structure Walk where
  next : Nat
  mine : Option HeadId
  stopped : Option HeadId
  acked : Bool
  timedOut : List HeadId
  deriving DecidableEq, Repr

/-- The restoration state with its delay timer (R72). -/
inductive Restoration where
  | idle
  | delaying (due : Time)
  | walking (w : Walk)
  deriving DecidableEq, Repr

/-- The resumption list and the pass over it (R70, R71): the handle last taken by a running pass, and whether a pass is
due. -/
structure Resumption where
  list : List Handle
  running : Bool
  last : Option Handle
  due : Bool
  deriving DecidableEq, Repr

/-! ## Control Arbiter (Chapter 4) -/

/-- The mode of a holding or a claim (R78). -/
inductive Mode where
  | exclusive | priv
  deriving DecidableEq, Repr

/-- A claim entry (R78). -/
structure Claim where
  desk : Desk
  rank : Nat
  mode : Mode
  stamp : Nat
  deriving DecidableEq, Repr

/-- The state of a control record with the fields present in it (R76): HELD and PRIVATE are `held` with the mode, and carry
the holder and the last input time; SHARED carries the share set in the order of joining. -/
inductive Control where
  | free
  | held (mode : Mode) (holder : Desk) (lastInput : Time)
  | shared (members : List Desk)
  deriving DecidableEq, Repr

/-- A control record (R76). -/
structure ControlRecord where
  control : Control
  claims : List Claim
  deriving DecidableEq, Repr

/-- A report of the Arbiter to the Input Router and the Scan Unit (R102), kept until the taking's reports are given: the
control state of a source before and after a change. -/
structure DriverReport where
  source : Source
  before : Control
  after : Control
  deriving DecidableEq, Repr

/-! ## Input Router (Chapter 5) -/

/-- The content of an input queue entry (R108). -/
inductive InputBody where
  | keys (modifiers : Byte) (codes : List Byte)
  | pointer (dx dy wheel : Int) (buttons : BitVec 5)
  | releaseAll
  deriving DecidableEq, Repr

/-- An entry of an input queue, or the item of a deferred key slot (R108). -/
structure InputEntry where
  origin : Desk
  body : InputBody
  deriving DecidableEq, Repr

/-- A frame toward a source unit (R112, R64). -/
inductive SourceFrame where
  | tierSet (head : HeadIx) (tier : Tier)
  | input (body : InputBody)
  deriving DecidableEq, Repr

/-- The active sharer with its sharer input time (R106). -/
structure Sharer where
  desk : Desk
  since : Time
  deriving DecidableEq, Repr

/-- What the Input Router and the transmitter keep for a source: the input queue with its deferred key slot (R108), the
active sharer (R106), the LED state (R114), the frame on the transmitter and the TIER_SET frames waiting for it (R112). -/
structure InputPath where
  queue : List InputEntry
  deferred : Option InputEntry
  sharer : Option Sharer
  led : Option (BitVec 5)
  sending : Option SourceFrame
  tierSets : List (HeadIx × Tier)
  deriving DecidableEq, Repr

/-! ## Desk ports (Chapter 6) -/

/-- The states of a desk link (R117). -/
inductive DeskLinkState where
  | down | initial | up | lost
  deriving DecidableEq, Repr

/-- A desk link record, but for its stack and notice list (R117). -/
structure DeskLink where
  link : DeskLinkState
  screenCount : Nat
  initialTimer : Option Time
  silenceTimer : Option Time
  graceTimer : Option Time
  frameSince : Bool
  deriving DecidableEq, Repr

/-- A request of the connection or control group with its arguments as the frame carries them (R196). -/
inductive RequestBody where
  | connect (screen source head : Byte)
  | disconnect (screen : Byte)
  | scan (screen : Byte) (dwell : Nat) (list : List (Byte × Byte))
  | recall (preset : Byte)
  | take (source mode preempt : Byte)
  | share (source : Byte)
  | release
  | withdraw
  deriving DecidableEq, Repr

/-- A stacked request: its request number and its arguments (R127). -/
structure Request where
  number : Byte
  body : RequestBody
  deriving DecidableEq, Repr

/-- What a request at step 1 waits for (R16, R17): the end of a bring-up in flight on its screen, told by its head and by
which automatic bring-up it is (none for a requested one); the release of its desk's transfer handle by the replacement that
holds it, told by its head and the record it replaces; or the turn of a record on the re-admission list. -/
inductive Hold where
  | bringUp (head : HeadId) (auto : Option Automatic)
  | transfer (head : HeadId) (replaces : Option Handle)
  | listed (h : Handle)
  deriving DecidableEq, Repr

/-- How far an executing request, or a force command, has come: about to take up step 1; waiting there for what it found to
hold it (R16); with a record of its own in flight; awaiting the house frame event (R24); or, for RECALL, working on a slot. -/
inductive Phase where
  | step1
  | held (holds : List Hold)
  | inFlight
  | frame
  | recall (slot : SlotIx)
  deriving DecidableEq, Repr

/-- An executing request (R129). -/
structure Executing where
  request : Request
  phase : Phase
  deriving DecidableEq, Repr

/-- A desk's request stack (R129). -/
structure Stack where
  executing : Option Executing
  waiting : Option Request
  deriving DecidableEq, Repr

/-- The kinds of notice (R133). -/
inductive NoticeKind where
  | preempted | forced | granted | idleReleased | privacy | changed
  deriving DecidableEq, Repr

/-- A notice (R133). -/
structure Notice where
  kind : NoticeKind
  source : Option Source
  screen : Option ScreenIx
  overflow : Bool
  deriving DecidableEq, Repr

/-! ## Layout Stager (Chapter 8) -/

/-- The outcomes of a response (R195). -/
inductive ResponseOutcome where
  | done | refused | failed | cancelled | onHold | busy | nak
  deriving DecidableEq, Repr

/-- The detail codes, in the order of R195. -/
inductive Detail where
  | noDetail | adjusted | badArgument | noRight | notViewing | privateInUse | salvoPending | queueFull | wrongState
  | notHolder | notMember | stackFull | roomLocked | noBandwidth | tierTimeout | lockTimeout | superseded | preempted
  | forced | noRecord | notHeld | sourceCarried | storeBusy | presetCorrupt | notBlank | verifyFailed | unknownKind
  | deskAbsent | overlap | holdExpired | changed | granted | idleReleased | privacy
  deriving DecidableEq, Repr

/-- The states of a staging slot (R151). -/
inductive SlotState where
  | empty | loaded | armed | committing
  deriving DecidableEq, Repr

/-- The owner of a slot: SUPERVISOR, or a desk (R151). -/
inductive Owner where
  | supervisor
  | desk (d : Desk)
  deriving DecidableEq, Repr

/-- The commit stage of a COMMITTING slot (R151). -/
inductive CommitStage where
  | beforeEvent | afterEvent
  deriving DecidableEq, Repr

/-- An entry of a slot: the staging entry, whether it is a charged entry (R151), and whether it is still in the slot's
commit, so that its screen keeps its mark (R163). -/
structure SlotEntry where
  entry : StageEntry
  charged : Bool
  marks : Bool
  deriving DecidableEq, Repr

/-- A staging slot (R151).  `arming` is the request that arms the slot; an arming or revalidation admission stands in
`State.admissions`.  The last four fields are the model's: an event of R157 has touched an entry since the slot was last
validated; a COMMIT waits for a revalidation (R162); the commit's records that are not yet stable and the number that
became stable in FAULT (R165). -/
structure Slot where
  state : SlotState
  owner : Option Owner
  entries : List SlotEntry
  arming : Option Owner
  holdTimer : Option Time
  stage : Option CommitStage
  failure : Option (Nat × Detail)
  touched : Bool
  commitDue : Bool
  awaiting : List Handle
  faults : Nat
  deriving DecidableEq, Repr

/-! ## Supervisory line and room lock (Chapter 9) -/

/-- A command whose answer waits on other events (R168). -/
inductive Command where
  | arm (slot : SlotIx)
  | commit (slot : SlotIx)
  | forceConnect (screen : ScreenId) (head : HeadId) (phase : Phase)
  | forceDisconnect (screen : ScreenId) (phase : Phase)
  | saveSettings
  | stageToPreset
  | presetErase
  | restart
  deriving DecidableEq, Repr

/-- The manner of a room lock (R179). -/
inductive Manner where
  | soft | hard
  deriving DecidableEq, Repr

/-- The sensitivity set of a room lock (R179). -/
structure Sensitivity where
  connections : Bool
  control : Bool
  scans : Bool
  tiers : Bool
  deriving DecidableEq, Repr

/-- A standing room lock (R179). -/
structure RoomLock where
  sens : Sensitivity
  manner : Manner
  due : Option Time
  deriving DecidableEq, Repr

/-- The change set (R178). -/
structure Marks where
  desks : Vector Bool 16
  sources : Vector Bool 24
  slots : Vector Bool 4
  room : Bool
  store : Bool
  settingsFault : Bool
  deriving DecidableEq, Repr

/-! ## Configuration Store (Chapter 10) -/

/-- A preset (R184).  The stored check value of a VALID preset is `none` once it has been invalidated. -/
inductive Preset where
  | blank
  | valid (entries : List StageEntry) (check : Option Nat)
  | corrupt
  deriving DecidableEq, Repr

/-- The store operation under way with what it writes (R184). -/
inductive StoreOp where
  | saveSettings (content : Settings)
  | writePreset (p : PresetIx) (entries : List StageEntry)
  | erasePreset (p : PresetIx)
  deriving DecidableEq, Repr

/-- The Configuration Store (R183, R184): the settings region's content and check value (`none` once invalidated), the
settings state (GOOD is true), the presets and the operation under way. -/
structure Store where
  region : Settings
  regionCheck : Option Nat
  settingsGood : Bool
  presets : Vector Preset 32
  op : Option StoreOp
  deriving DecidableEq, Repr

/-! ## Receivers and frames sent (Chapter 11) -/

/-- A receiver (R193): HUNTING; HEADER before and after the length; BODY with the bytes still to come. -/
inductive Receiver where
  | hunting
  | header
  | headerKind (length : Nat)
  | body (kind : Byte) (payload : List Byte) (left : Nat)
  deriving DecidableEq, Repr

/-- A response (R169, R195) but for its line. -/
structure Response where
  outcome : ResponseOutcome
  kind : Byte
  detail : Detail
  data : List Byte
  deriving DecidableEq, Repr

/-- A frame the module has sent: a response, notice or LED_STATE toward a desk unit, a frame toward a source unit, or a
response on the supervisory line. -/
inductive Sent where
  | deskResponse (d : Desk) (number : Byte) (r : Response)
  | deskNotice (d : Desk) (n : Notice)
  | deskLed (d : Desk) (source : Option Source) (set : BitVec 5)
  | toSource (s : Source) (f : SourceFrame)
  | supervisory (r : Response)
  deriving DecidableEq, Repr

/-! ## The whole -/

/-- The state of the module. -/
structure State where
  /-- whether power is applied (POWER_UP, POWER_FAIL) -/
  powered : Bool
  /-- the moment, in milliseconds -/
  now : Time
  /-- the fraction of a house frame interval passed, in thousandths of the rate -/
  framePhase : Nat
  /-- the house rate that the running interval was begun with (R9) -/
  frameRate : Nat
  /-- the Connection Table in ascending handle order (R1) -/
  conns : List Conn
  /-- the crosspoint map, the pending change list and the lock timers, by position 4 × desk + screen (R7, R8, R11) -/
  positions : Vector Position 64
  /-- the re-admission list (R28) -/
  readmissions : List Readmit
  /-- the source links with their heads (R35, R42) -/
  sourceLinks : Vector SourceLink 24
  /-- the tier records (R52) -/
  tiers : Vector (Vector TierRecord 4) 24
  /-- the admissions in flight, oldest first -/
  admissions : List Admission
  /-- the number the next admission takes -/
  nextAdmission : Nat
  /-- the resumption list and pass (R70, R71) -/
  resumption : Resumption
  /-- the restoration state (R72) -/
  restoration : Restoration
  /-- the restoration delay has expired under the standing TIERS lock, so that a walk begins from the start at its end (R74) -/
  expiredUnderLock : Bool
  /-- the control records (R76) -/
  controls : Vector ControlRecord 24
  /-- the arrival counter (R78) -/
  arrivals : Nat
  /-- driver reports not yet given (R102); empty between the actions of the Control Arbiter -/
  reports : List DriverReport
  /-- the desks whose input target has changed in this taking, each with the target it had before (R115); empty between
  takings -/
  movedTargets : List (Desk × Option Source)
  /-- the input paths (R106, R108, R112, R114) -/
  inputs : Vector InputPath 24
  /-- the input targets (R104) -/
  targets : Vector (Option Source) 16
  /-- the desk links (R117) -/
  deskLinks : Vector DeskLink 16
  /-- the request stacks (R129) -/
  requests : Vector Stack 16
  /-- the notice lists, front first (R133) -/
  notices : Vector (List Notice) 16
  /-- the staging slots (R151) -/
  slots : Vector Slot 4
  /-- the command in progress (R168) -/
  command : Option Command
  /-- the room lock (R179) -/
  roomLock : Option RoomLock
  /-- the change set (R178) -/
  marks : Marks
  /-- the working settings (R183) -/
  settings : Settings
  /-- the Configuration Store (R183, R184) -/
  store : Store
  /-- the receivers of the source links, the desk links and the supervisory line (R193) -/
  sourceReceivers : Vector Receiver 24
  deskReceivers : Vector Receiver 16
  supervisoryReceiver : Receiver
  /-- the moment the gap between two bytes of a supervisory frame grows too long (R193) -/
  gapTimer : Option Time
  /-- the frames sent, oldest first -/
  sent : List Sent
  /-- the commands waiting, front first -/
  pending : List Instr
  deriving DecidableEq, Repr

/-- No command of the module ends in a fault: the manual gives each an effect in every state. -/
inductive Fault where
  /-- raised by no one; safe.  The type of faults of a model that has none. -/
  | noSuchFault
  deriving DecidableEq, Repr

/-- No command of the module is refused by the model; what the module refuses it answers on the line. -/
inductive Refusal where
  /-- a command that has no meaning yet, by its mnemonic; raised by a refused arm of `exec` alone; safe. -/
  | notModelled (mnemonic : String)
  deriving DecidableEq, Repr

/-- A source link after power-up and RESTART (R35, R42). -/
def SourceLink.fresh : SourceLink where
  link := .down
  headCount := 4
  initialTimer := none
  silenceTimer := none
  frameSince := false
  heads := Vector.replicate 4 .absent

/-- A tier record after power-up and RESTART, at the tier given (R52). -/
def TierRecord.fresh (t : Tier) : TierRecord where
  tier := t
  raw := none
  change := none
  lastNamed := none

/-- A control record after power-up and RESTART (R76). -/
def ControlRecord.fresh : ControlRecord where
  control := .free
  claims := []

/-- An input path after power-up and RESTART (R106, R108, R112, R114). -/
def InputPath.fresh : InputPath where
  queue := []
  deferred := none
  sharer := none
  led := none
  sending := none
  tierSets := []

/-- A desk link after power-up and RESTART, with the grace timer as given (R117). -/
def DeskLink.fresh (grace : Option Time) : DeskLink where
  link := .down
  screenCount := 4
  initialTimer := none
  silenceTimer := none
  graceTimer := grace
  frameSince := false

/-- An EMPTY staging slot (R151). -/
def Slot.fresh : Slot where
  state := .empty
  owner := none
  entries := []
  arming := none
  holdTimer := none
  stage := none
  failure := none
  touched := false
  commitDue := false
  awaiting := []
  faults := 0

/-- The change set at start-up: every desk, source and slot mark set, with the room and store marks (R178, R190). -/
def Marks.atStart (settingsFault : Bool) : Marks where
  desks := Vector.replicate 16 true
  sources := Vector.replicate 24 true
  slots := Vector.replicate 4 true
  room := true
  store := true
  settingsFault := settingsFault

/-- The store as the module is delivered: the factory defaults saved, every preset BLANK (log entry 1). -/
def Store.delivered : Store where
  region := .factory
  regionCheck := some (checkValue Settings.factory.image)
  settingsGood := true
  presets := Vector.replicate 32 .blank
  op := none

/-- The module right after power-up with the delivered store (R1, R7, R8, R11, R28, R35, R42, R52, R70, R72, R76, R78, R104,
R106, R108, R112, R114, R117, R151, R168, R178, R179, R190, R191, R193): every desk's grace timer runs for the factory
default of 60 s. -/
def State.reset : State where
  powered := true
  now := 0
  framePhase := 0
  frameRate := 60
  conns := []
  positions := Vector.replicate 64 { shown := .card .blank, pending := none, lockTimer := none }
  readmissions := []
  sourceLinks := Vector.replicate 24 .fresh
  tiers := Vector.replicate 24 (Vector.replicate 4 (.fresh 0))
  admissions := []
  nextAdmission := 0
  resumption := { list := [], running := false, last := none, due := false }
  restoration := .idle
  expiredUnderLock := false
  controls := Vector.replicate 24 .fresh
  arrivals := 0
  reports := []
  movedTargets := []
  inputs := Vector.replicate 24 .fresh
  targets := Vector.replicate 16 none
  deskLinks := Vector.replicate 16 (.fresh (some 60000))
  requests := Vector.replicate 16 { executing := none, waiting := none }
  notices := Vector.replicate 16 []
  slots := Vector.replicate 4 .fresh
  command := none
  roomLock := none
  marks := .atStart false
  settings := .factory
  store := .delivered
  sourceReceivers := Vector.replicate 24 .hunting
  deskReceivers := Vector.replicate 16 .hunting
  supervisoryReceiver := .hunting
  gapTimer := none
  sent := []
  pending := []

end Sys2Proof.Machine
end

