-- ==== Sys2Proof/Machine/Flags.lean ====
section
/-!
DEFINITION. Setting the marks of the change set (R178).  Each rule that marks a desk, source, slot, the room or the store
does it through one of these.
-/

namespace Sys2Proof.Machine

def State.markDesk (s : State) (d : Desk) : State :=
  { s with marks := { s.marks with desks := s.marks.desks.set d true } }

def State.markSource (s : State) (x : Source) : State :=
  { s with marks := { s.marks with sources := s.marks.sources.set x true } }

def State.markSlot (s : State) (i : SlotIx) : State :=
  { s with marks := { s.marks with slots := s.marks.slots.set i true } }

def State.markRoom (s : State) : State := { s with marks := { s.marks with room := true } }

def State.markStore (s : State) : State := { s with marks := { s.marks with store := true } }

def State.markSettingsFault (s : State) : State := { s with marks := { s.marks with settingsFault := true } }

/-- Mark each desk of a list. -/
def State.markDesks (s : State) (ds : List Desk) : State := ds.foldl State.markDesk s

/-- Mark each source of a list. -/
def State.markSources (s : State) (xs : List Source) : State := xs.foldl State.markSource s

end Sys2Proof.Machine
end

