-- ==== Sys2Proof/Machine/Codes.lean ====
section
/-!
DEFINITION. The codes of enumerated values in frames (R192, R195, R199).
-/

namespace Sys2Proof.Machine

/-- Outcome codes (R195). -/
def ResponseOutcome.code : ResponseOutcome → Byte
  | .done => 0
  | .refused => 1
  | .failed => 2
  | .cancelled => 3
  | .onHold => 4
  | .busy => 5
  | .nak => 6

/-- Detail codes, numbered from 0 in the order of R195. -/
def Detail.code : Detail → Byte
  | .noDetail => 0
  | .adjusted => 1
  | .badArgument => 2
  | .noRight => 3
  | .notViewing => 4
  | .privateInUse => 5
  | .salvoPending => 6
  | .queueFull => 7
  | .wrongState => 8
  | .notHolder => 9
  | .notMember => 10
  | .stackFull => 11
  | .roomLocked => 12
  | .noBandwidth => 13
  | .tierTimeout => 14
  | .lockTimeout => 15
  | .superseded => 16
  | .preempted => 17
  | .forced => 18
  | .noRecord => 19
  | .notHeld => 20
  | .sourceCarried => 21
  | .storeBusy => 22
  | .presetCorrupt => 23
  | .notBlank => 24
  | .verifyFailed => 25
  | .unknownKind => 26
  | .deskAbsent => 27
  | .overlap => 28
  | .holdExpired => 29
  | .changed => 30
  | .granted => 31
  | .idleReleased => 32
  | .privacy => 33

/-- Codes of record states in answers and records (R195). -/
def RecordState.code : RecordState → Byte
  | .waiting => 0
  | .admitting => 1
  | .switching => 2
  | .live => 3
  | .suspended .budget => 4
  | .suspended .privacy => 5
  | .suspended .deskAbsent => 6
  | .fault => 7

/-- The state code of a holding: HELD 8, PRIVATE 9 (R195). -/
def Mode.stateCode : Mode → Byte
  | .exclusive => 8
  | .priv => 9

/-- The state code SHARED (R195). -/
def sharedCode : Byte := 10

/-- The state code QUEUED (R195). -/
def queuedCode : Byte := 11

/-- The control state: the codes of R195 where it gives one, else the place in the list of R76 (FREE 0). -/
def Control.code : Control → Byte
  | .free => 0
  | .held m _ _ => m.stateCode
  | .shared _ => sharedCode

/-- The mode: EXCLUSIVE 0, PRIVATE 1 (R196). -/
def Mode.code : Mode → Byte
  | .exclusive => 0
  | .priv => 1

/-- The notice kind as a detail code, for a NOTICE frame and a cancelling or holding answer (R195, R135, R136). -/
def NoticeKind.detail : NoticeKind → Detail
  | .preempted => .preempted
  | .forced => .forced
  | .granted => .granted
  | .idleReleased => .idleReleased
  | .privacy => .privacy
  | .changed => .changed

/-- The notice kind by its place in the list of R133 (R199). -/
def NoticeKind.code : NoticeKind → Byte
  | .preempted => 0
  | .forced => 1
  | .granted => 2
  | .idleReleased => 3
  | .privacy => 4
  | .changed => 5

/-- The suspend reason by its place in R1. -/
def SuspendReason.code : SuspendReason → Byte
  | .budget => 0
  | .privacy => 1
  | .deskAbsent => 2

/-- The origin of a record by its place in R1. -/
def Origin.code : Origin → Byte
  | .desk => 0
  | .supervisor => 1
  | .salvo => 2
  | .scan => 3
  | .start => 4

/-- The bring-up step, 2, 3 or 4 (R2). -/
def BringUpStep.code : BringUpStep → Byte
  | .admission => 2
  | .switch => 3
  | .lock => 4

/-- The source link state by its place in the table of 02, section 2.1. -/
def SourceLinkState.code : SourceLinkState → Byte
  | .down => 0
  | .initial => 1
  | .up => 2

/-- The desk link state by its place in R117. -/
def DeskLinkState.code : DeskLinkState → Byte
  | .down => 0
  | .initial => 1
  | .up => 2
  | .lost => 3

/-- The head state by its place in the table of 02, section 2.2. -/
def HeadRecord.code : HeadRecord → Byte
  | .absent => 0
  | .settling _ _ => 1
  | .active _ => 2
  | .unsupported _ => 3

/-- The slot state by its place in R151. -/
def SlotState.code : SlotState → Byte
  | .empty => 0
  | .loaded => 1
  | .armed => 2
  | .committing => 3

/-- The owner of a slot by its place in the list of R151: SUPERVISOR, then the desks. -/
def Owner.code : Owner → Byte
  | .supervisor => 0
  | .desk d => byte (d + 1)

/-- The commit stage by its place in R151. -/
def CommitStage.code : CommitStage → Byte
  | .beforeEvent => 0
  | .afterEvent => 1

/-- The origin of a tier change by its place in R52: an admission, or restoration. -/
def ChangeOrigin.code : ChangeOrigin → Byte
  | .admission _ => 0
  | .restoration => 1

/-- The restoration state by its place in R72. -/
def Restoration.code : Restoration → Byte
  | .idle => 0
  | .delaying _ => 1
  | .walking _ => 2

/-- The dwell timer state by its place in R140. -/
def DwellTimer.code : DwellTimer → Byte
  | .notStarted => 0
  | .running _ => 1
  | .frozen _ => 2

/-- The place of a card in the list of crosspoint map contents, after a route (R7). -/
def Card.code : Card → Byte
  | .blank => 1
  | .noSignal => 2
  | .outOfRange => 3
  | .bandwidth => 4
  | .privacy => 5
  | .fault => 6

/-- The manner of a room lock: SOFT 0, HARD 1 (R198). -/
def Manner.code : Manner → Byte
  | .soft => 0
  | .hard => 1

/-- The kind of an input queue entry by its place in R108. -/
def InputBody.code : InputBody → Byte
  | .keys _ _ => 0
  | .pointer _ _ _ _ => 1
  | .releaseAll => 2

/-- A condition as a byte: 1 when it holds, as the manual codes a presence byte, the preempt flag and the overflow mark. -/
def flag (b : Bool) : Byte := if b then 1 else 0

/-! Kind codes (R192, section 11.2). -/

namespace Kind
def descriptor : Byte := 0x01
def heartbeat : Byte := 0x02
def locked : Byte := 0x03
def unlocked : Byte := 0x04
def keys : Byte := 0x05
def pointer : Byte := 0x06
def headFormat : Byte := 0x07
def tierAck : Byte := 0x08
def ledState : Byte := 0x09
def connect : Byte := 0x10
def disconnect : Byte := 0x11
def scan : Byte := 0x12
def recallPreset : Byte := 0x13
def take : Byte := 0x18
def share : Byte := 0x19
def release : Byte := 0x1A
def withdraw : Byte := 0x1B
def noticeAck : Byte := 0x20
def queryScreen : Byte := 0x21
def querySource : Byte := 0x22
def queryDesk : Byte := 0x23
def ping : Byte := 0x30
def version : Byte := 0x31
def setDesk : Byte := 0x32
def setSource : Byte := 0x33
def setRights : Byte := 0x34
def setRoom : Byte := 0x35
def forceConnect : Byte := 0x38
def forceDisconnect : Byte := 0x39
def forceRelease : Byte := 0x3A
def portReset : Byte := 0x3B
def stageLoad : Byte := 0x40
def stageClear : Byte := 0x41
def arm : Byte := 0x42
def commit : Byte := 0x43
def disarm : Byte := 0x44
def presetToStage : Byte := 0x45
def stageToPreset : Byte := 0x46
def saveSettings : Byte := 0x48
def presetErase : Byte := 0x49
def presetBlank : Byte := 0x4A
def storeCheck : Byte := 0x4B
def listConnections : Byte := 0x50
def deskStatus : Byte := 0x51
def sourceStatus : Byte := 0x52
def budget : Byte := 0x53
def changes : Byte := 0x54
def lock : Byte := 0x58
def unlock : Byte := 0x59
def restart : Byte := 0x5A
def response : Byte := 0x80
def notice : Byte := 0x81
def deskLed : Byte := 0x82
def tierSet : Byte := 0x88
def inputKeys : Byte := 0x89
def inputPointer : Byte := 0x8A
def releaseAll : Byte := 0x8B
end Kind

/-- The kind code of a stacked request (section 11.2). -/
def RequestBody.kind : RequestBody → Byte
  | .connect _ _ _ => Kind.connect
  | .disconnect _ => Kind.disconnect
  | .scan _ _ _ => Kind.scan
  | .recall _ => Kind.recallPreset
  | .take _ _ _ => Kind.take
  | .share _ => Kind.share
  | .release => Kind.release
  | .withdraw => Kind.withdraw

/-- Whether a request is of the connection group; the others are of the control group (R127). -/
def RequestBody.isConnection : RequestBody → Bool
  | .connect _ _ _ | .disconnect _ | .scan _ _ _ | .recall _ => true
  | .take _ _ _ | .share _ | .release | .withdraw => false

/-- The kind code of a command whose answer waits (section 11.2). -/
def Command.kind : Command → Byte
  | .arm _ => Kind.arm
  | .commit _ => Kind.commit
  | .forceConnect _ _ _ => Kind.forceConnect
  | .forceDisconnect _ _ => Kind.forceDisconnect
  | .saveSettings => Kind.saveSettings
  | .stageToPreset => Kind.stageToPreset
  | .presetErase => Kind.presetErase
  | .restart => Kind.restart

end Sys2Proof.Machine
end

