-- ==== Sys2Proof/Machine/Operands.lean ====
section
/-!
DEFINITION. Reading the numbers of a payload (R192, R196 to R198): port and position numbers against their ranges, numbers
of two bytes, layout entries, and clamping (R170).
-/

namespace Sys2Proof.Machine

/-- A number as one of `0 … n - 1`, if it is in range. -/
def inRange (n : Nat) (k : Nat) : Option (Fin n) := if h : k < n then some ⟨k, h⟩ else none

/-- A byte as one of `0 … n - 1`, if it is in range. -/
def Byte.within (n : Nat) (b : Byte) : Option (Fin n) := inRange n b.toNat

/-- A number of two bytes, low byte first (R192). -/
def word16 (lo hi : Byte) : Nat := lo.toNat + 256 * hi.toNat

/-- A signed number of two bytes in two's complement (R192). -/
def int16 (lo hi : Byte) : Int := (BitVec.ofNat 16 (word16 lo hi)).toInt

/-- A number brought to the nearer limit of a range (R170). -/
def clamp (lo hi n : Nat) : Nat := if n < lo then lo else if hi < n then hi else n

/-- An integer saturated to `-limit … limit` (R105). -/
def saturate (limit n : Int) : Int := if n < -limit then -limit else if limit < n then limit else n

/-- A head named by two bytes. -/
def headOf (src head : Byte) : Option HeadId :=
  match Byte.within 24 src, Byte.within 4 head with
  | some x, some k => some ⟨x, k⟩
  | _, _ => none

/-- A screen named by two bytes. -/
def screenOf (desk screen : Byte) : Option ScreenId :=
  match Byte.within 16 desk, Byte.within 4 screen with
  | some d, some k => some ⟨d, k⟩
  | _, _ => none

/-- A list of pairs of bytes (SCAN, SET_RIGHTS), or none when a byte is left over. -/
def bytePairs : List Byte → Option (List (Byte × Byte))
  | [] => some []
  | a :: b :: rest => (bytePairs rest).map fun l => (a, b) :: l
  | [_] => none

/-- The layout entries of a payload, 5 bytes each (R197), or none when the bytes do not divide. -/
def byteEntries : List Byte → Option (List (Byte × Byte × Byte × Byte × Byte))
  | [] => some []
  | a :: b :: c :: d :: e :: rest => (byteEntries rest).map fun l => (a, b, c, d, e) :: l
  | _ => none

/-- A layout entry with every number in its range (R152, R197): target kind 0 is a head, 1 is BLANK.  R197 says that the source
and head bytes of a BLANK target are 0, and not what becomes of an entry where they are not: DESIGN CHOICE, it is accepted and
the two bytes are not read (log entry 47). -/
def layoutEntry : Byte × Byte × Byte × Byte × Byte → Option StageEntry
  | (d, k, kind, x, h) =>
    match screenOf d k with
    | none => none
    | some scr =>
      if kind = 0 then (headOf x h).map fun hd => ⟨scr, .head hd⟩
      else if kind = 1 then some ⟨scr, .blank⟩
      else none

/-- Each element through a partial reading, or none when one fails. -/
def readAll {α β : Type} (f : α → Option β) : List α → Option (List β)
  | [] => some []
  | a :: rest =>
    match f a, readAll f rest with
    | some b, some l => some (b :: l)
    | _, _ => none

/-- Elements of a list, the first of each kept. -/
def dedup {α : Type} [DecidableEq α] : List α → List α
  | [] => []
  | a :: rest => a :: (dedup rest).filter (· ≠ a)

/-- Bit `i` of a field-select (R198). -/
def selects (fs : Byte) (i : Nat) : Bool := fs.getLsbD i

/-- Every screen of the room in position order: desk, then screen. -/
def allScreens : List ScreenId :=
  (List.finRange 16).flatMap fun d => (List.finRange 4).map fun k => ⟨d, k⟩

/-- Every head of the room in (source, head) order. -/
def allHeads : List HeadId :=
  (List.finRange 24).flatMap fun x => (List.finRange 4).map fun k => ⟨x, k⟩

end Sys2Proof.Machine
end

