-- ==== Sys2Proof/Machine/Ops.lean ====
section
/-!
DEFINITION. Named operations over the state: reading and writing each record, with the marks of the change set that a change
of the record makes, sending frames, and the lookups shared by several blocks.
-/

/-- Position 4 × d + s belongs to screen d.s (R7). -/
def Sys2Proof.ScreenId.pos (scr : Sys2Proof.ScreenId) : Fin 64 :=
  ⟨4 * scr.desk.val + scr.screen.val, by omega⟩

namespace Sys2Proof.Machine

/-! ## Lines and frames sent -/

/-- Record a frame as sent (log entry 4). -/
def State.emit (s : State) (x : Sent) : State := { s with sent := s.sent ++ [x] }

def State.deskLink (s : State) (d : Desk) : DeskLink := s.deskLinks[d]

/-- A desk link that is INITIAL or UP takes and is sent frames (R117). -/
def DeskLinkState.live : DeskLinkState → Bool
  | .initial | .up => true
  | .down | .lost => false

def State.deskLive (s : State) (d : Desk) : Bool := (s.deskLink d).link.live

/-- A frame toward a desk unit; one produced while the link is DOWN or LOST is dropped (R132). -/
def State.sendDesk (s : State) (d : Desk) (x : Sent) : State := if s.deskLive d then s.emit x else s

/-- A response to a desk unit (R127, R195). -/
def State.respond (s : State) (d : Desk) (number : Byte) (r : Response) : State :=
  s.sendDesk d (.deskResponse d number r)

/-- A response on the supervisory line (R169). -/
def State.reply (s : State) (kind : Byte) (o : ResponseOutcome) (detail : Detail) (data : List Byte) : State :=
  s.emit (.supervisory ⟨o, kind, detail, data⟩)

/-- The answer of the command in progress, which then is none (R168). -/
def State.answerCommand (s : State) (o : ResponseOutcome) (detail : Detail) (data : List Byte) : State :=
  match s.command with
  | none => s
  | some c => { s.reply c.kind o detail data with command := none }

/-- The start-up sequence after a RESTART has not ended: the RESTART is still in progress (R168, R182). -/
def State.starting (s : State) : Bool := s.command = some .restart

/-! ## Desk ports -/

def State.setDeskLink (s : State) (d : Desk) (l : DeskLink) : State :=
  { s with deskLinks := s.deskLinks.set d l }

/-- Set a desk link record, marking the desk when the link state or the screen count changes (R117). -/
def State.changeDeskLink (s : State) (d : Desk) (l : DeskLink) : State :=
  let old := s.deskLink d
  let s1 := s.setDeskLink d l
  if old.link ≠ l.link ∨ old.screenCount ≠ l.screenCount then s1.markDesk d else s1

def State.stack (s : State) (d : Desk) : Stack := s.requests[d]

def State.setStack (s : State) (d : Desk) (k : Stack) : State := { s with requests := s.requests.set d k }

def State.noticeList (s : State) (d : Desk) : List Notice := s.notices[d]

def State.setNotices (s : State) (d : Desk) (l : List Notice) : State := { s with notices := s.notices.set d l }

/-- Where an executing request has come to. -/
def State.setPhase (s : State) (d : Desk) (p : Phase) : State :=
  match (s.stack d).executing with
  | none => s
  | some e => s.setStack d { s.stack d with executing := some { e with phase := p } }

/-- The stack once its executing request has left it: the waiting request becomes executing, and is about to begin (R129). -/
def Stack.next (k : Stack) : Stack where
  executing := k.waiting.map fun r => { request := r, phase := .step1 }
  waiting := none

/-- The answer of a desk's executing request, which then leaves the stack; the waiting request becomes executing at that
moment, and begins in the same taking (R129; `State.dueRequest`). -/
def State.answerDesk (s : State) (d : Desk) (o : ResponseOutcome) (detail : Detail) (data : List Byte) : State :=
  match (s.stack d).executing with
  | none => s
  | some e =>
    (s.respond d e.request.number ⟨o, e.request.body.kind, detail, data⟩).setStack d (s.stack d).next

/-! ## Settings -/

def State.deskSettings (s : State) (d : Desk) : DeskSettings := s.settings.desks[d]

def State.sourceSettings (s : State) (x : Source) : SourceSettings := s.settings.sources[x]

def State.room (s : State) : RoomSettings := s.settings.room

def State.right (s : State) (d : Desk) (x : Source) : Right := (s.settings.rights[d])[x]

/-- The moment a number of seconds from now. -/
def State.inSeconds (s : State) (n : Nat) : Time := s.now + 1000 * n

/-! ## Source links and heads -/

def State.sourceLink (s : State) (x : Source) : SourceLink := s.sourceLinks[x]

def State.setSourceLink (s : State) (x : Source) (l : SourceLink) : State :=
  { s with sourceLinks := s.sourceLinks.set x l }

/-- Set a source link record, marking the source when the link state or the head count changes (R35). -/
def State.changeSourceLink (s : State) (x : Source) (l : SourceLink) : State :=
  let old := s.sourceLink x
  let s1 := s.setSourceLink x l
  if old.link ≠ l.link ∨ old.headCount ≠ l.headCount then s1.markSource x else s1

/-- A source link that is INITIAL or UP takes and is sent frames (02, section 2.1). -/
def SourceLinkState.live : SourceLinkState → Bool
  | .initial | .up => true
  | .down => false

def State.sourceLive (s : State) (x : Source) : Bool := (s.sourceLink x).link.live

def State.head (s : State) (h : HeadId) : HeadRecord := (s.sourceLink h.source).heads[h.head]

/-- The format of a head, in every state but ABSENT (02, section 2.2). -/
def HeadRecord.format : HeadRecord → Option Format
  | .absent => none
  | .settling f _ | .active f | .unsupported f => some f

def HeadRecord.isActive : HeadRecord → Bool
  | .active _ => true
  | _ => false

def HeadRecord.isAbsent : HeadRecord → Bool
  | .absent => true
  | _ => false

def State.headActive (s : State) (h : HeadId) : Bool := (s.head h).isActive

/-- Set a head record, marking its source when the state or the format changes (R42). -/
def State.setHead (s : State) (h : HeadId) (r : HeadRecord) : State :=
  let old := s.head h
  let l := s.sourceLink h.source
  let s1 := s.setSourceLink h.source { l with heads := l.heads.set h.head r }
  if old.code ≠ r.code ∨ old.format ≠ r.format then s1.markSource h.source else s1

/-- The head is below the head count its Source Link Interface holds (R15). -/
def State.headExists (s : State) (h : HeadId) : Bool := h.head.val < (s.sourceLink h.source).headCount

/-! ## Tier records -/

def State.tier (s : State) (h : HeadId) : TierRecord := (s.tiers[h.source])[h.head]

/-- Set a tier record, marking the source when the tier, the raw charge or the change in flight changes (R53). -/
def State.setTier (s : State) (h : HeadId) (r : TierRecord) : State :=
  let old := s.tier h
  let s1 := { s with tiers := s.tiers.set h.source ((s.tiers[h.source]).set h.head r) }
  if old.tier ≠ r.tier ∨ old.raw ≠ r.raw ∨ old.change ≠ r.change then s1.markSource h.source else s1

/-! ## Connection Table -/

/-- A record's source. -/
def Conn.source (c : Conn) : Source := c.head.source

/-- A record's desk. -/
def Conn.desk (c : Conn) : Desk := c.screen.desk

/-- LIVE, WAITING, SUSPENDED and FAULT are the stable states (R2). -/
def RecordState.stable : RecordState → Bool
  | .admitting | .switching => false
  | _ => true

/-- The states in which a record holds a reservation (R5). -/
def RecordState.reserves : RecordState → Bool
  | .switching | .live => true
  | _ => false

def State.conn? (s : State) (h : Handle) : Option Conn := s.conns.find? (·.handle = h)

/-- A record put at its place in ascending handle order, in place of one of the same handle. -/
def putConn (c : Conn) : List Conn → List Conn
  | [] => [c]
  | x :: rest =>
    if c.handle < x.handle then c :: x :: rest
    else if c.handle = x.handle then c :: rest
    else x :: putConn c rest

/-- Every creation, retirement and change of state, suspend reason, source or head marks the record's desk and source
(R1). -/
def State.markConn (s : State) (c : Conn) : State := (s.markDesk c.desk).markSource c.source

/-- A new record joins the table. -/
def State.createConn (s : State) (c : Conn) : State :=
  let s1 : State := { s with conns := putConn c s.conns }
  s1.markConn c

/-- A record takes new contents under its handle. -/
def State.setConn (s : State) (c : Conn) : State :=
  let s1 := { s with conns := putConn c s.conns }
  match s.conn? c.handle with
  | none => s1.markConn c
  | some old => if old.state ≠ c.state ∨ old.head ≠ c.head then (s1.markConn old).markConn c else s1

/-- A commit no longer awaits a record (R165). -/
def Slot.forget (k : Slot) (h : Handle) : Slot := { k with awaiting := k.awaiting.filter (· ≠ h) }

/-- A record leaves the table; the lists that name its handle lose it (R25). -/
def State.removeConn (s : State) (h : Handle) : State :=
  match s.conn? h with
  | none => s
  | some c =>
    let s1 : State := { s with
      conns := s.conns.filter (·.handle ≠ h)
      readmissions := s.readmissions.filter (·.handle ≠ h)
      resumption := { s.resumption with list := s.resumption.list.filter (· ≠ h) }
      slots := s.slots.map (·.forget h) }
    s1.markConn c

/-- The lowest free resident handle (R3). -/
def State.lowestFree (s : State) : Option Handle :=
  (List.range 64).find? fun h => s.conns.all fun c => c.handle ≠ h

/-- A desk's transfer handle (R4). -/
def transferHandle (d : Desk) : Handle := 64 + d

/-- Whether a desk's transfer handle is held (R4). -/
def State.transferHeld (s : State) (d : Desk) : Bool := s.conns.any fun c => c.handle = transferHandle d

/-- The records on a screen. -/
def State.connsAt (s : State) (scr : ScreenId) : List Conn := s.conns.filter (·.screen = scr)

/-- The record of a screen: the one on it that is not a replacement record, or else a replacement record whose old record
has gone (R21). -/
def State.screenConn (s : State) (scr : ScreenId) : Option Conn :=
  match (s.connsAt scr).find? (·.replaces.isNone) with
  | some c => some c
  | none => (s.connsAt scr).head?

/-- The replacement record in flight on a screen. -/
def State.replacementAt (s : State) (scr : ScreenId) : Option Conn :=
  (s.connsAt scr).find? (·.replaces.isSome)

/-- Whether a record is the old record of a replacement in flight (R21). -/
def State.beingReplaced (s : State) (c : Conn) : Bool :=
  s.conns.any fun r => r.replaces = some c.handle ∧ r.screen = c.screen

/-- A bring-up is in flight on a record, or its request is still to be answered at a frame event (R16, R22).  A replacement that has
reached WAITING or SUSPENDED and awaits its frame event is in flight by R20 and R22, which answer it there, and not by R2 and R16,
which speak of a stable state: DESIGN CHOICE, it still holds a request at step 1 (log entry 63). -/
def Conn.inFlight (c : Conn) : Bool := c.step.isSome || c.answerTo.isSome

/-! ## Crosspoint Fabric -/


def State.position (s : State) (scr : ScreenId) : Position := s.positions[scr.pos]

def State.setPosition (s : State) (scr : ScreenId) (p : Position) : State :=
  { s with positions := s.positions.set scr.pos p }

/-- Stop a screen's lock timer (R11). -/
def State.stopLockTimer (s : State) (scr : ScreenId) : State :=
  s.setPosition scr { s.position scr with lockTimer := none }

/-- Start a screen's lock timer for the lock timeout standing now (R11). -/
def State.startLockTimer (s : State) (scr : ScreenId) : State :=
  s.setPosition scr { s.position scr with lockTimer := some (s.now + s.room.lockTimeout) }

/-- The screen is below its desk's screen count. -/
def State.screenExists (s : State) (scr : ScreenId) : Bool :=
  scr.screen.val < (s.deskLink scr.desk).screenCount

/-- What the fabric sends toward a desk screen: nothing while the link is DOWN or LOST or beyond the screen count, else the
content of the map entry (R7). -/
def State.screenOutput (s : State) (scr : ScreenId) : Option Content :=
  if s.deskLive scr.desk && s.screenExists scr then some (s.position scr).shown else none

/-! ## Control records -/

def State.controlRecord (s : State) (x : Source) : ControlRecord := s.controls[x]

def State.control (s : State) (x : Source) : Control := (s.controlRecord x).control

def State.claims (s : State) (x : Source) : List Claim := (s.controlRecord x).claims

/-- The desks that drive a source: its holder, or the members of its share set (R77). -/
def Control.drivers : Control → List Desk
  | .free => []
  | .held _ d _ => [d]
  | .shared ms => ms

/-- A source's privacy holder (R31). -/
def Control.privacyHolder : Control → Option Desk
  | .held .priv d _ => some d
  | _ => none

def State.privacyHolder (s : State) (x : Source) : Option Desk := (s.control x).privacyHolder

/-- The source is PRIVATE with a holder other than the desk. -/
def State.privateToOther (s : State) (x : Source) (d : Desk) : Bool :=
  match s.privacyHolder x with
  | some p => p ≠ d
  | none => false

/-- Whether two control states give a desk the same relation to the source. -/
def Control.sameRelation (a b : Control) (d : Desk) : Bool :=
  match a, b with
  | .held _ x _, .held _ y _ => (x = d) = (y = d)
  | .shared m, .shared n => m.contains d = n.contains d
  | _, _ => !a.drivers.contains d && !b.drivers.contains d

/-- Set a source's control state: the source and each desk whose holding or membership begins or ends are marked (R76), and
the change is kept for the report to the Input Router (R102). -/
def State.setControl (s : State) (x : Source) (c : Control) : State :=
  let r := s.controlRecord x
  let s1 : State := { s with
    controls := s.controls.set x { r with control := c }
    reports := s.reports ++ [⟨x, r.control, c⟩] }
  (s1.markSource x).markDesks
    ((dedup (r.control.drivers ++ c.drivers)).filter fun d => !r.control.sameRelation c d)

/-- Set a source's claim queue: the source and each desk whose claim begins or ends are marked (R76, R80). -/
def State.setClaims (s : State) (x : Source) (q : List Claim) : State :=
  let r := s.controlRecord x
  let s1 := { s with controls := s.controls.set x { r with claims := q } }
  if r.claims = q then s1
  else (s1.markSource x).markDesks
    ((dedup ((r.claims ++ q).map (·.desk))).filter fun d =>
      r.claims.any (·.desk = d) ≠ q.any (·.desk = d))

/-- Set the last input time of a held source (R96). -/
def State.setLastInput (s : State) (x : Source) : State :=
  match s.control x with
  | .held m d _ =>
    { s with controls := s.controls.set x { s.controlRecord x with control := .held m d s.now } }
  | _ => s

/-- The sources in ascending order. -/
def allSources : List Source := List.finRange 24

/-- The desks in ascending order. -/
def allDesks : List Desk := List.finRange 16

/-- The slots in ascending order. -/
def allSlots : List SlotIx := List.finRange 4

/-- The source a desk holds, if any (R77). -/
def State.heldBy (s : State) (d : Desk) : Option Source :=
  allSources.find? fun x => match s.control x with
    | .held _ p _ => p = d
    | _ => false

/-- The source whose share set holds a desk, if any (R77). -/
def State.sharedBy (s : State) (d : Desk) : Option Source :=
  allSources.find? fun x => match s.control x with
    | .shared ms => ms.contains d
    | _ => false

/-- The source a desk has a claim on, if any (R77). -/
def State.claimedBy (s : State) (d : Desk) : Option Source :=
  allSources.find? fun x => (s.claims x).any (·.desk = d)

/-- The desk drives the source: holds it or is a member of its share set. -/
def State.drives (s : State) (d : Desk) (x : Source) : Bool := (s.control x).drivers.contains d

/-! ## Input paths -/

def State.input (s : State) (x : Source) : InputPath := s.inputs[x]

def State.setInput (s : State) (x : Source) (p : InputPath) : State := { s with inputs := s.inputs.set x p }

def State.target (s : State) (d : Desk) : Option Source := s.targets[d]

def State.setTarget (s : State) (d : Desk) (t : Option Source) : State := { s with targets := s.targets.set d t }

/-! ## Staging slots -/

def State.slot (s : State) (i : SlotIx) : Slot := s.slots[i]

/-- Set a slot, marking it when its state, owner, entries, charged entries or last failure change (R151).  R151 does not say whether an
uncharged entry that leaves a commit, and so changes in nothing but its screen's mark, is such a change: DESIGN CHOICE, it sets the
slot mark (log entry 67). -/
def State.setSlot (s : State) (i : SlotIx) (k : Slot) : State :=
  let old := s.slot i
  let s1 := { s with slots := s.slots.set i k }
  if old.state ≠ k.state ∨ old.owner ≠ k.owner ∨ old.entries ≠ k.entries ∨ old.failure ≠ k.failure then
    s1.markSlot i
  else s1

/-- A slot in ARMED or COMMITTING marks the screens of its entries still in it (R158, R163). -/
def Slot.marksScreen (k : Slot) (scr : ScreenId) : Bool :=
  (k.state = .armed ∨ k.state = .committing) && k.entries.any fun e => e.marks && e.entry.screen = scr

/-- The slot that marks a screen, if any (R158). -/
def State.markedBy (s : State) (scr : ScreenId) : Option SlotIx :=
  allSlots.find? fun i => (s.slot i).marksScreen scr

/-- A slot whose commit awaits its frame event (R162). -/
def Slot.beforeEvent (k : Slot) : Bool := k.state = .committing ∧ k.stage = some .beforeEvent

/-- A commit holds the screen's pending change until its frame event (R162). -/
def State.commitHolds (s : State) (scr : ScreenId) : Bool :=
  allSlots.any fun i => (s.slot i).beforeEvent && (s.slot i).marksScreen scr

/-- The head a target names. -/
def Target.head? : Target → Option HeadId
  | .head h => some h
  | .blank => none

/-- A head is staged while an entry of an ARMED or COMMITTING slot, or of a slot with an arm in progress, names it
(R152). -/
def State.staged (s : State) (h : HeadId) : Bool :=
  allSlots.any fun i =>
    let k := s.slot i
    (k.state = .armed ∨ k.state = .committing ∨ k.arming.isSome) &&
      k.entries.any fun e => e.entry.target = .head h

/-! ## Room lock -/

def State.lockHas (s : State) (p : Sensitivity → Bool) : Bool :=
  match s.roomLock with
  | some l => p l.sens
  | none => false

/-! ## Time -/

/-- The moment of a timer's expiry: the clock stands there at the least (log entry 2). -/
def State.reach (s : State) (due : Time) : State := { s with now := max s.now due }

end Sys2Proof.Machine
end

