-- ==== Sys2Proof/Machine/Transmitter.lean ====
section
/-!
DEFINITION. The transmitter of a source link (R112): it sends one frame at a time; waiting TIER_SET frames come before the
head entry of the input queue.
-/

namespace Sys2Proof.Machine

/-- Start a waiting frame on a free transmitter: a TIER_SET if one waits, the head entry of the input queue otherwise; the
item of the deferred key slot joins the tail as an entry leaves (R112). -/
def InputPath.start (p : InputPath) : InputPath :=
  match p.sending with
  | some _ => p
  | none =>
    match p.tierSets with
    | (h, t) :: rest => { p with sending := some (.tierSet h t), tierSets := rest }
    | [] =>
      match p.queue with
      | [] => p
      | e :: rest => { p with
          sending := some (.input e.body)
          queue := rest ++ p.deferred.toList
          deferred := none }

/-- The transmitter of a source looks for a frame to start, while the link is INITIAL or UP (R112). -/
def State.kick (s : State) (x : Source) : State :=
  if s.sourceLive x then s.setInput x (s.input x).start else s

/-- Send a TIER_SET for a head while its link is INITIAL or UP: it waits for the transmitter, and becomes the head's last
named tier (R52, R64). -/
def State.sendTierSet (s : State) (h : HeadId) (t : Tier) : State :=
  if s.sourceLive h.source then
    let p := s.input h.source
    let s1 := s.setInput h.source { p with tierSets := p.tierSets ++ [(h.head, t)] }
    let s2 := s1.setTier h { s1.tier h with lastNamed := some t }
    s2.kick h.source
  else s

end Sys2Proof.Machine
end

