-- ==== Sys2Proof/Machine/Router.lean ====
section
/-!
DEFINITION. The Input Router (Chapter 5): input queues, shared input, and what follows a change of the desks that drive a
source; with it the Scan Unit's pause flags, which follow the same reports (R147).
-/

namespace Sys2Proof.Machine

/-! ## The input queue (R108 to R111) -/

/-- Put a KEYS or RELEASE_ALL item into a queue: at the tail, or in the deferred key slot when the queue is full (R110,
R111). -/
def InputPath.join (p : InputPath) (e : InputEntry) : InputPath :=
  if p.queue.length < Config.inputQueueCapacity then { p with queue := p.queue ++ [e] } else { p with deferred := some e }

/-- A movement gathered into another of the same origin, under the button set given (R109). -/
def mergePointer (d : Desk) (a b : Int × Int × Int) (buttons : BitVec 5) : InputEntry where
  origin := d
  body := .pointer (saturate Config.moveLimit (a.1 + b.1)) (saturate Config.moveLimit (a.2.1 + b.2.1))
    (saturate Config.wheelLimit (a.2.2 + b.2.2)) buttons

/-- A POINTER report reaches a queue (R109); none when it is discarded. -/
def InputPath.point (p : InputPath) (d : Desk) (dx dy wheel : Int) (buttons : BitVec 5) : Option InputPath :=
  let new : InputEntry := { origin := d, body := .pointer dx dy wheel buttons }
  let room := p.queue.length < Config.inputQueueCapacity
  match p.queue.getLast? with
  | some ⟨o, .pointer x y w b⟩ =>
    if o = d ∧ (b = buttons ∨ ¬ room) then
      some { p with queue := p.queue.dropLast ++ [mergePointer d (x, y, w) (dx, dy, wheel) buttons] }
    else if room then some { p with queue := p.queue ++ [new] }
    else none
  | _ => if room then some { p with queue := p.queue ++ [new] } else none

/-- A RELEASE_ALL is queued on a source whose link is INITIAL or UP (R111). -/
def State.queueRelease (s : State) (x : Source) (d : Desk) : State :=
  if s.sourceLive x then (s.setInput x ((s.input x).join ⟨d, .releaseAll⟩)).kick x else s

/-- A report reaches the queue of a source; the flag tells whether the queue took it in (R105, R109, R110). -/
def State.queueReport (s : State) (x : Source) (d : Desk) (b : InputBody) : State × Bool :=
  match b with
  | .pointer dx dy wheel buttons =>
    match (s.input x).point d dx dy wheel buttons with
    | some p => ((s.setInput x p).kick x, true)
    | none => (s, false)
  | b => ((s.setInput x ((s.input x).join ⟨d, b⟩)).kick x, true)

/-! ## Shared input (R106) -/

/-- Set the active sharer of a source; a change of it marks the source and the desks that gain or lose the position
(R107). -/
def State.setSharer (s : State) (x : Source) (v : Option Sharer) : State :=
  let p := s.input x
  let s1 := s.setInput x { p with sharer := v }
  let old := p.sharer.map (·.desk)
  let new := v.map (·.desk)
  if old = new then s1 else (s1.markSource x).markDesks (dedup (old.toList ++ new.toList))

/-- The active sharer is idle (R106). -/
def State.sharerIdle (s : State) (x : Source) (k : Sharer) : Bool :=
  k.since + (s.sourceSettings x).shareInterval ≤ s.now

/-- A report of a member of a share set (R106). -/
def State.sharedReport (s : State) (x : Source) (d : Desk) (b : InputBody) : State :=
  match (s.input x).sharer with
  | none => ((s.setSharer x (some ⟨d, s.now⟩)).queueReport x d b).1
  | some k =>
    if k.desk = d then ((s.setSharer x (some ⟨d, s.now⟩)).queueReport x d b).1
    else if s.sharerIdle x k then
      (((s.setSharer x (some ⟨d, s.now⟩)).queueRelease x k.desk).queueReport x d b).1
    else s

/-- A KEYS or POINTER report in its working form (R105). -/
def State.takeReport (s : State) (d : Desk) (b : InputBody) : State :=
  match s.target d with
  | none => s
  | some x =>
    if !s.sourceLive x then s
    else match s.control x with
      | .shared _ => s.sharedReport x d b
      | _ =>
        let r := s.queueReport x d b
        if r.2 then r.1.setLastInput x else r.1

/-! ## Changes of the driving desks (R102, R104, R107, R111, R115) -/

/-- The input target that the control records give a desk (R104). -/
def State.dueTarget (s : State) (d : Desk) : Option Source :=
  match s.heldBy d with
  | some x => some x
  | none => s.sharedBy d

/-- What a change of driving desks does to the active sharer, and whose keys it releases (R107, R111). -/
def DriverReport.route (r : DriverReport) (s : State) : State :=
  match r.before, r.after with
  | .held _ d t, .shared ms =>
    if ms.contains d then s.setSharer r.source (some ⟨d, t⟩) else s.queueRelease r.source d
  | .held _ d _, .held _ e _ => if d = e then s else s.queueRelease r.source d
  | .held _ d _, .free => s.queueRelease r.source d
  | .shared _, after =>
    match (s.input r.source).sharer with
    | none => s
    | some k =>
      match after with
      | .shared ms => if ms.contains k.desk then s else (s.setSharer r.source none).queueRelease r.source k.desk
      | .held _ e _ =>
        if k.desk = e then s.setSharer r.source none
        else (s.setSharer r.source none).queueRelease r.source k.desk
      | .free => (s.setSharer r.source none).queueRelease r.source k.desk
  | .free, _ => s

/-- A desk's input target is set, and the one it had before the taking kept (R104, R115). -/
def State.moveTarget (s : State) (d : Desk) (v : Option Source) : State :=
  let s1 := s.setTarget d v
  if s.movedTargets.any (·.1 = d) then s1 else { s1 with movedTargets := s1.movedTargets ++ [(d, s.target d)] }

/-- The pause flag of a scan follows a change of its desk's driving of the source it shows (R147). -/
def State.setPause (s : State) (d : Desk) (x : Source) (b : Bool) : State :=
  (s.conns.filter fun c => c.desk = d && c.source = x).foldl
    (fun t c => match c.scan with
      | none => t
      | some k =>
        if k.paused = b then t
        else (t.setConn { c with scan := some { k with paused := b } }).markDesk d) s

/-- A desk ceases to drive a source: it loses the target, or takes the one the control records now give it (R104, R147). -/
def State.ceaseDriving (s : State) (x : Source) (d : Desk) : State :=
  let due := s.dueTarget d
  let s1 := s.setPause d x (due = some x)
  if s.target d = some x ∧ due ≠ some x then s1.moveTarget d due else s1

/-- A desk begins to drive a source (R104, R147). -/
def State.beginDriving (s : State) (x : Source) (d : Desk) : State :=
  if s.dueTarget d = some x then
    let s1 := s.setPause d x true
    if s.target d = some x then s1 else s1.moveTarget d (some x)
  else s

/-- One report of a change in driving desks. -/
def State.takeDriverReport (s : State) (r : DriverReport) : State :=
  let s1 := r.route s
  let s2 := (r.before.drivers.filter fun d => !r.after.drivers.contains d).foldl (fun t d => t.ceaseDriving r.source d) s1
  (r.after.drivers.filter fun d => !r.before.drivers.contains d).foldl (fun t d => t.beginDriving r.source d) s2

/-- The reports of an action of the Control Arbiter are given in the order in which the control records were changed, once every
change of privacy holder has been reported (R102): releases are queued, active sharers, input targets and pause flags set. -/
def State.giveReports (s : State) : State := s.reports.foldl State.takeDriverReport { s with reports := [] }

/-- A desk whose input target is another than before the taking is told of the new one: the target's set where it has one, or that
it has none (R115). -/
def State.tellTarget (s : State) (d : Desk) (old : Option Source) : State :=
  if s.target d = old then s
  else match s.target d with
    | none => s.sendDesk d (.deskLed d none 0)
    | some x => match (s.input x).led with
      | none => s
      | some set => s.sendDesk d (.deskLed d (some x) set)

/-- At the end of a taking every desk whose input target it has moved is told once, so that one that has moved from one source to
another is sent the state of the new source alone (R115; log entry 39). -/
def State.tellTargets (s : State) : State :=
  s.movedTargets.foldl (fun t p => t.tellTarget p.1 p.2) { s with movedTargets := [] }

/-! ## Loss of a source link (R113, R114) -/

/-- The Input Router and the transmitter are told that a source's link has gone DOWN: the queue, the deferred key slot and
the transmitter are emptied, and the LED state becomes absent.  A desk whose target the source is, and which moves to another source
later in the same taking, is sent both frames of R115, the source with the empty set now and the state of the new source at the end
of the taking: DESIGN CHOICE, R115 can be read to ask for the second alone (log entry 60). -/
def State.inputLinkDown (s : State) (x : Source) : State :=
  let p := s.input x
  let s1 := s.setInput x { p with queue := [], deferred := none, sending := none, tierSets := [], led := none }
  let s2 := if p.led.isSome then s1.markSource x else s1
  allDesks.foldl (fun t d => if t.target d = some x then t.sendDesk d (.deskLed d (some x) 0) else t) s2

end Sys2Proof.Machine
end

