-- ==== Sys2Proof/Machine/Charges.lean ====
section
/-!
DEFINITION. The arithmetic of charges (Chapter 3): raw and tier charges, which heads are carried, head and screen charges,
link totals, the prospective totals of an admission and the raise loop.  Charges and totals are functions of the records
and tier records, so that they are kept after every change by construction (R55).
-/

namespace Sys2Proof.Machine

/-- The raw charge of a format, in BU: the exact product over 50,000,000, rounded up (R50). -/
def rawCharge (f : Format) : Nat := (f.width * f.height * f.refresh * f.depth + 49999999) / 50000000

/-- The divisor of a tier: 1, 2, 4 or 8 (R51). -/
def divisor (t : Tier) : Nat := 2 ^ t.val

/-- The tier charge: the raw charge over the tier's divisor, rounded up (R51). -/
def tierCharge (raw : Nat) (t : Tier) : Nat := (raw + divisor t - 1) / divisor t

/-- The tier at which a head is charged: its tier, or the lower of the old and new tiers while a change is in flight
(R53). -/
def TierRecord.effective (r : TierRecord) : Tier :=
  match r.change with
  | none => r.tier
  | some c => if c.old < c.new then c.old else c.new

/-- The charge of a head at a tier: 0 while it has no raw charge (R50). -/
def TierRecord.chargeAt (r : TierRecord) (t : Tier) : Nat :=
  match r.raw with
  | none => 0
  | some n => tierCharge n t

/-- The charged entries of a slot in ARMED or COMMITTING, as placements (R151, R156). -/
def Slot.chargedPlacements (k : Slot) : List Placement :=
  if k.state = .armed ∨ k.state = .committing then
    k.entries.filterMap fun e =>
      if e.charged then e.entry.target.head?.map fun h => ⟨h, e.entry.screen⟩ else none
  else []

/-- The charged entries of all slots. -/
def State.chargedPlacements (s : State) : List Placement :=
  allSlots.flatMap fun i => (s.slot i).chargedPlacements

/-- The heads that a record in SWITCHING or LIVE or a charged entry names. -/
def State.namedHeads (s : State) : List HeadId :=
  (s.conns.filter (·.state.reserves)).map (·.head) ++ s.chargedPlacements.map (·.head)

/-- A head is carried while it is ACTIVE and a record in SWITCHING or LIVE or a charged entry names it (R53, R156). -/
def State.carried (s : State) (h : HeadId) : Bool := s.headActive h && s.namedHeads.contains h

/-- The carried heads, each once. -/
def State.carriedHeads (s : State) : List HeadId := dedup (s.namedHeads.filter s.headActive)

/-- Whether an admission in flight holds a head (R52). -/
def State.holds (s : State) (h : HeadId) : Bool :=
  s.admissions.any fun a => a.placements.any (·.head = h)

/-- The components of a screen charge, by their place in R54: the screen's record, a charged entry, and a replacement
record in SWITCHING. -/
def State.components (s : State) (scr : ScreenId) : List (Nat × HeadId) :=
  ((s.connsAt scr).filterMap fun c => if c.replaces.isNone && c.state.reserves then some (0, c.head) else none)
  ++ (s.chargedPlacements.filterMap fun p =>
      if p.screen = scr && s.headActive p.head then some (1, p.head) else none)
  ++ ((s.connsAt scr).filterMap fun c => if c.replaces.isSome && c.state = .switching then some (2, c.head) else none)

/-- Tiers on paper (R58): the heads whose tier on paper differs from the tier they are charged at. -/
abbrev Paper := List (HeadId × Tier)

/-- A head's tier on paper. -/
def State.paperTier (s : State) (paper : Paper) (h : HeadId) : Tier :=
  match paper.find? (·.1 = h) with
  | some p => p.2
  | none => (s.tier h).effective

/-- A head's charge on paper: the tier charge at its tier on paper, wherever the head counts (R57, R58). -/
def State.paperCharge (s : State) (paper : Paper) (h : HeadId) : Nat :=
  if s.headActive h then (s.tier h).chargeAt (s.paperTier paper h) else 0

/-- The heads that count toward a screen, the placements on it included (R54, R57). -/
def State.screenHeads (s : State) (pl : List Placement) (scr : ScreenId) : List HeadId :=
  (s.components scr).map (·.2) ++ (pl.filter (·.screen = scr)).map (·.head)

/-- The largest of a list of numbers, or 0. -/
def largest (l : List Nat) : Nat := l.foldl max 0

/-- A screen's charge on paper: the largest of its heads' charges (R54, R57). -/
def State.paperScreen (s : State) (paper : Paper) (pl : List Placement) (scr : ScreenId) : Nat :=
  largest ((s.screenHeads pl scr).map (s.paperCharge paper))

/-- The four screens of a desk. -/
def deskScreens (d : Desk) : List ScreenId := (List.finRange 4).map fun k => ⟨d, k⟩

/-- A desk total on paper (R55, R57). -/
def State.paperDesk (s : State) (paper : Paper) (pl : List Placement) (d : Desk) : Nat :=
  ((deskScreens d).map (s.paperScreen paper pl)).sum

/-- The heads summed in a source total: the carried ones and those placed, each once (R55, R57). -/
def State.sourceHeads (s : State) (pl : List Placement) (x : Source) : List HeadId :=
  dedup ((s.carriedHeads ++ pl.map (·.head)).filter (·.source = x))

/-- A source total on paper (R55, R57). -/
def State.paperSource (s : State) (paper : Paper) (pl : List Placement) (x : Source) : Nat :=
  ((s.sourceHeads pl x).map (s.paperCharge paper)).sum

/-- The head charge (R53). -/
def State.headCharge (s : State) (h : HeadId) : Nat := if s.carried h then s.paperCharge [] h else 0

/-- The screen charge (R54). -/
def State.screenCharge (s : State) (scr : ScreenId) : Nat := s.paperScreen [] [] scr

/-- The desk total (R55). -/
def State.deskTotal (s : State) (d : Desk) : Nat := s.paperDesk [] [] d

/-- The source total (R55). -/
def State.sourceTotal (s : State) (x : Source) : Nat := s.paperSource [] [] x

/-- The desk links that placements concern. -/
def placedDesks (pl : List Placement) : List Desk := dedup (pl.map (·.screen.desk))

/-- The source links that placements concern. -/
def placedSources (pl : List Placement) : List Source := dedup (pl.map (·.head.source))

/-- The desks whose total on paper overflows (R55, R58). -/
def State.overDesks (s : State) (paper : Paper) (pl : List Placement) : List Desk :=
  (placedDesks pl).filter fun d => Config.deskCapacity < s.paperDesk paper pl d

/-- The sources whose total on paper overflows (R55, R58). -/
def State.overSources (s : State) (paper : Paper) (pl : List Placement) : List Source :=
  (placedSources pl).filter fun x => Config.sourceCapacity < s.paperSource paper pl x

/-- The heads whose charge is the charge of a screen of the desk (R58). -/
def State.chargingHeads (s : State) (paper : Paper) (pl : List Placement) (d : Desk) : List HeadId :=
  (deskScreens d).flatMap fun scr =>
    (s.screenHeads pl scr).filter fun h => s.paperCharge paper h = s.paperScreen paper pl scr

/-- The heads that count toward an overflowing total, each once (R58). -/
def State.overflowing (s : State) (paper : Paper) (pl : List Placement) : List HeadId :=
  dedup ((s.overSources paper pl).flatMap (s.sourceHeads pl)
    ++ (s.overDesks paper pl).flatMap (s.chargingHeads paper pl))

/-- Both kinds of total fit within their capacities (R57). -/
def State.fits (s : State) (paper : Paper) (pl : List Placement) : Bool :=
  (s.overDesks paper pl).isEmpty && (s.overSources paper pl).isEmpty

/-- The tier limit of a head's source. -/
def State.tierLimit (s : State) (h : HeadId) : Tier := (s.sourceSettings h.source).tierLimit

/-- The preferred tier of a head's source. -/
def State.preferredTier (s : State) (h : HeadId) : Tier := (s.sourceSettings h.source).preferredTier

/-- The candidates of a turn: heads that count toward an overflowing total, below their tier limit on paper and without a
change in flight (R58). -/
def State.candidates (s : State) (paper : Paper) (pl : List Placement) : List HeadId :=
  (s.overflowing paper pl).filter fun h =>
    s.paperTier paper h < s.tierLimit h && (s.tier h).change.isNone

/-- A head's place in (source, head) order, 0 to 95. -/
def headPlace (h : HeadId) : Nat := 4 * h.source.val + h.head.val

/-- The candidate raised in a turn: the one with the largest charge on paper, and on equal charges the lowest in
(source, head) order (R58). -/
def State.pick (s : State) (paper : Paper) : List HeadId → Option HeadId
  | [] => none
  | h :: rest =>
    match s.pick paper rest with
    | none => some h
    | some b =>
      if s.paperCharge paper b < s.paperCharge paper h then some h
      else if s.paperCharge paper b = s.paperCharge paper h ∧ headPlace h < headPlace b then some h
      else some b

/-- A head raised by one tier on paper. -/
def State.raise (s : State) (paper : Paper) (h : HeadId) : Paper :=
  (h, s.paperTier paper h + 1) :: paper.filter (·.1 ≠ h)

/-- The raise loop (R58): the paper on which it ends, which fits, or on which no candidate remains.  Each turn raises one of
96 heads by one of at most 3 tiers, so 288 turns suffice. -/
def State.raiseLoop (s : State) (pl : List Placement) : Nat → Paper → Paper
  | 0, paper => paper
  | n + 1, paper =>
    if s.fits paper pl then paper
    else match s.pick paper (s.candidates paper pl) with
      | none => paper
      | some h => s.raiseLoop pl n (s.raise paper h)

/-- The placements whose head is ACTIVE; the others are left out and charge nothing (R57). -/
def State.activePlacements (s : State) (pl : List Placement) : List Placement :=
  pl.filter fun p => s.headActive p.head

end Sys2Proof.Machine
end

