-- ==== Sys2Proof/Machine/Budget.lean ====
section
/-!
DEFINITION. The Budget Unit at work (Chapter 3): tier changes, admissions, and the account that follows every change of
charges: heads no longer carried return to their preferred tier, reservations follow the charges, and a decrease of charge
starts resumption and the restoration delay.
-/

namespace Sys2Proof.Machine

/-! ## Restoration and decreases -/

/-- A walk at the start of a pass (R73). -/
def Walk.fresh : Walk where
  next := 0
  mine := none
  stopped := none
  acked := false
  timedOut := []

/-- A walk begins from the start (R72).  Under a TIERS lock it comes no further than the test of a head, and begins afresh at the
lock's end (R74).  While a restoration change of an ended walk is in flight, R72 has the state become WALKING at the expiry and the
walk begin as that change settles: DESIGN CHOICE, the state is WALKING at once, with the walk at no head until then (log entry
64). -/
def State.beginWalk (s : State) : State :=
  { s with restoration := .walking .fresh, expiredUnderLock := s.lockHas (·.tiers) }

/-- The restoration delay is restarted: it runs anew, or with a delay of 0 the walk begins at once (R72).  A delay that runs anew
under a TIERS lock takes the place of one that has expired under it (log entry 55). -/
def State.restartDelay (s : State) : State :=
  if s.room.restorationDelay = 0 then s.beginWalk
  else { s with
    restoration := .delaying (s.inSeconds s.room.restorationDelay), expiredUnderLock := false }

/-- A decrease of charge makes a resumption pass due and, but for the fall after a restoration change's timeout, restarts the
restoration delay (R56, R71, R72). -/
def State.noteDecrease (s : State) (restart : Bool) : State :=
  let s1 := { s with resumption := { s.resumption with due := true } }
  if restart then s1.restartDelay else s1

/-- The walk stops waiting for its change on a head (R66 to R68). -/
def State.walkSettles (s : State) (h : HeadId) (acked timedOut : Bool) : State :=
  match s.restoration with
  | .walking w =>
    if w.mine = some h then
      { s with restoration := .walking { w with
          mine := none
          acked := w.acked || acked
          timedOut := if timedOut then h :: w.timedOut else w.timedOut } }
    else s
  | _ => s

/-! ## Tier changes -/

/-- An admission learns that the change on a head has settled, if it waits for it (R61). -/
def Admission.settle (a : Admission) (h : HeadId) : Admission :=
  match a.phase with
  | .others hs => { a with phase := .others (hs.filter (· ≠ h)) }
  | _ => a

/-- An admission fails for a change of its own on a head (R60, R68). -/
def Admission.fail (a : Admission) (id : Nat) (h : HeadId) : Admission :=
  if a.id = id ∧ a.phase = .own then { a with phase := .failed h } else a

/-- Every admission waiting for the change on a head learns that it has settled. -/
def State.changeSettled (s : State) (h : HeadId) : State :=
  { s with admissions := s.admissions.map (·.settle h) }

/-- The admission that issued a change is to be refused for it (`State.refuseFailed`, `State.dueRefusal`). -/
def State.failIssuer (s : State) (o : ChangeOrigin) (h : HeadId) : State :=
  match o with
  | .admission id => { s with admissions := s.admissions.map (·.fail id h) }
  | .restoration => s

/-- Open a change in flight on a head toward a new tier, sending its TIER_SET and starting its timer (R65). -/
def State.openChange (s : State) (h : HeadId) (new : Tier) (o : ChangeOrigin) : State :=
  let r := s.tier h
  let s1 := s.setTier h { r with
    change := some { old := r.tier, new := new, origin := o, due := s.now + Config.tierChangeTime } }
  s1.sendTierSet h new

/-- Whether an abandoned change on a head leaves the admission that issued it in place: the head is one of its placement
heads, or lies on the source whose link went DOWN together with one of them (R68). -/
def Admission.spared (a : Admission) (h : HeadId) (linkDown : Bool) : Bool :=
  a.placements.any fun p => p.head = h || (linkDown && p.head.source = h.source)

/-- Abandon the change in flight on a head (R68). -/
def State.abandonChange (s : State) (h : HeadId) (linkDown : Bool) : State :=
  let r := s.tier h
  match r.change with
  | none => s
  | some c =>
    let s1 := (s.setTier h { r with change := none }).changeSettled h
    let spared := s1.admissions.any fun a => c.origin = .admission a.id && a.spared h linkDown
    let s2 := if spared then s1 else s1.failIssuer c.origin h
    s2.walkSettles h false false

/-- A head that has stopped being carried, or that nothing carries or holds any longer, stands at its source's preferred tier:
its change in flight is abandoned, and a TIER_SET naming the tier is sent where one is due (R68, R69). -/
def State.returnHead (s : State) (h : HeadId) : State :=
  let inFlight := (s.tier h).change.isSome
  let s1 := s.abandonChange h false
  let s2 := s1.setTier h { s1.tier h with tier := s.preferredTier h }
  if inFlight ∨ (s.tier h).lastNamed ≠ some (s.preferredTier h) then s2.sendTierSet h (s.preferredTier h) else s2

/-! ## The account of a change -/

/-- The heads that are carried or held. -/
def State.keptHeads (s : State) : List HeadId :=
  dedup (s.carriedHeads ++ s.admissions.flatMap fun a => a.placements.map (·.head))

/-- The screens that some record or charged entry charges. -/
def State.chargedScreens (s : State) : List ScreenId :=
  dedup ((s.conns.filter (·.state.reserves)).map (·.screen) ++ s.chargedPlacements.map (·.screen))

/-- Every reservation equals its head's charge in SWITCHING and LIVE and is 0 elsewhere (R5). -/
def State.syncReservations (s : State) : State :=
  { s with conns := s.conns.map fun c =>
      { c with reservation := if c.state.reserves then s.headCharge c.head else 0 } }

/-- What follows a change of records, armed entries, heads, tiers or admissions from `old` to `new`: the return of the heads
that have stopped being carried, and of those whose last admission hold has gone while nothing carries them (R69; log entry
18), the marks for changed carried conditions and screen charges (R53, R54), the reservations (R5), and the effects of a
decrease (R56).  Heads that one event ends return in the order in which records, entries and admissions name them: DESIGN CHOICE
(log entry 49).  Only a fall of a head charge or of a screen charge counts as a decrease, by the first sentence of R56, and not each
release of a reservation, as R5 and the list of R56 can be read: DEDUCED (log entry 72). -/
def State.account (old new : State) (restart : Bool) : State :=
  let gone := old.keptHeads.filter fun h => !new.carried h && (old.carried h || !new.holds h)
  let s1 := gone.foldl State.returnHead new
  let heads := dedup (old.carriedHeads ++ s1.carriedHeads)
  let screens := dedup (old.chargedScreens ++ s1.chargedScreens)
  let s2 := s1.markSources ((heads.filter fun h => old.carried h ≠ s1.carried h).map (·.source))
  let s3 := s2.markDesks
    ((screens.filter fun scr => old.screenCharge scr ≠ s1.screenCharge scr).map (·.desk))
  let fell := (heads.any fun h => s1.headCharge h < old.headCharge h)
    || (screens.any fun scr => s1.screenCharge scr < old.screenCharge scr)
  let s4 := s3.syncReservations
  if fell then s4.noteDecrease restart else s4

/-- A change of the state together with its account. -/
def State.accounted (s : State) (f : State → State) : State := s.account (f s) true

/-! ## Admissions -/

/-- The decision of an admission (R57): a refusal for bandwidth tells which totals overflow (R63). -/
inductive Verdict where
  | granted
  | refused (desks : List Desk) (sources : List Source)
  | waiting
  deriving DecidableEq, Repr

/-- An admission stands among those in flight, in the place it had. -/
def State.standAdmission (s : State) (a : Admission) : State :=
  if s.admissions.any (·.id = a.id) then
    { s with admissions := s.admissions.map fun b => if b.id = a.id then a else b }
  else { s with admissions := s.admissions ++ [a] }

/-- Open the changes of a solution (R59), in (source, head) order (log entry 38). -/
def State.openRaises (s : State) (id : Nat) (paper : Paper) : State :=
  allHeads.foldl (fun t h => match paper.find? (·.1 = h) with
    | some p => t.openChange h p.2 (.admission id)
    | none => t) s

/-- The computation of an admission with raises allowed (R57 to R61): on its first run it may wait for changes it did not
issue. -/
def State.runAdmission (s : State) (id : Nat) (o : AdmissionOwner) (all : List Placement) (first : Bool) :
    State × Verdict :=
  let pl := s.activePlacements all
  let inFlight := dedup ((pl.map (·.head)).filter fun h => (s.tier h).change.isSome)
  if first && !inFlight.isEmpty then (s.standAdmission ⟨id, o, pl, .others inFlight⟩, .waiting)
  else
    let paper := s.raiseLoop pl 288 []
    if s.fits paper pl then
      if paper.isEmpty then (s, .granted)
      else ((s.openRaises id paper).standAdmission ⟨id, o, pl, .own⟩, .waiting)
    else
      let stuck := (s.overflowing paper pl).filter fun h => (s.tier h).change.isSome
      if first && !stuck.isEmpty then (s.standAdmission ⟨id, o, pl, .others stuck⟩, .waiting)
      else (s, .refused (s.overDesks paper pl) (s.overSources paper pl))

/-- A new admission is asked (R57). -/
def State.beginAdmission (s : State) (o : AdmissionOwner) (pl : List Placement) : State × Verdict :=
  { s with nextAdmission := s.nextAdmission + 1 }.runAdmission s.nextAdmission o pl true

/-- An admission with raises forbidden: granted or refused at once (R57, R144). -/
def State.fitsNow (s : State) (pl : List Placement) : Bool := s.fits [] (s.activePlacements pl)

/-- The admissions of an owner end without a decision; heads they alone held return to their preferred tiers (R62). -/
def State.withdrawAdmission (s : State) (o : AdmissionOwner) : State :=
  if s.admissions.any (·.owner = o) then
    s.accounted fun t => { t with admissions := t.admissions.filter (·.owner ≠ o) }
  else s

/-- An admission is removed once it has been granted or refused (R60). -/
def State.endAdmission (s : State) (id : Nat) : State :=
  s.accounted fun t => { t with admissions := t.admissions.filter (·.id ≠ id) }

/-- Whether some change in flight was issued by an admission. -/
def State.issuedOutstanding (s : State) (id : Nat) : Bool :=
  allHeads.any fun h => match (s.tier h).change with
    | some c => c.origin = .admission id
    | none => false

/-! ## The handshake -/

/-- A TIER_ACK naming a head and a tier (R66). -/
def State.acknowledge (s : State) (h : HeadId) (t : Tier) : State :=
  let r := s.tier h
  match r.change with
  | none => s
  | some c =>
    if c.new ≠ t then s
    else
      let s1 := s.accounted fun u => u.setTier h { r with tier := c.new, change := none }
      (s1.changeSettled h).walkSettles h true false

/-- A head's tier change timer expires (R67). -/
def State.changeTimeout (s : State) (h : HeadId) : State :=
  let r := s.tier h
  match r.change with
  | none => s
  | some c =>
    let s1 := s.account (s.setTier h { r with change := none }) (c.origin ≠ .restoration)
    let s2 := s1.sendTierSet h c.old
    ((s2.changeSettled h).failIssuer c.origin h).walkSettles h false true

/-! ## Restoration (R73) -/

/-- Some restoration change is in flight (R72). -/
def State.restorationInFlight (s : State) : Bool :=
  allHeads.any fun h => match (s.tier h).change with
    | some c => c.origin = .restoration
    | none => false

/-- Lowering a head by one tier keeps its source total and every desk total it counts toward within capacity (R73). -/
def State.lowerFits (s : State) (h : HeadId) : Bool :=
  let paper : Paper := [(h, (s.tier h).tier - 1)]
  (s.paperSource paper [] h.source ≤ Config.sourceCapacity) &&
    allDesks.all fun d =>
      !((deskScreens d).any fun scr => (s.screenHeads [] scr).contains h) ||
        s.paperDesk paper [] d ≤ Config.deskCapacity

/-- A carried head that the walk tests for lowering: it is not passed over for its tier, a change in flight or a timeout of
this pass (R73). -/
def State.testable (s : State) (w : Walk) (h : HeadId) : Bool :=
  s.carried h && s.preferredTier h < (s.tier h).tier && (s.tier h).change.isNone && !w.timedOut.contains h

/-- A carried head that the walk lowers (R73). -/
def State.lowerable (s : State) (w : Walk) (h : HeadId) : Bool := s.testable w h && s.lowerFits h

/-- The next head of a pass, from the walk's place on: under a TIERS lock the next to be tested, at which the walk stops (R74);
else the next to be lowered. -/
def State.walkTarget (s : State) (w : Walk) (locked : Bool) : Option HeadId :=
  allHeads.find? fun h => w.next ≤ headPlace h && if locked then s.testable w h else s.lowerable w h

/-- The walk goes on: to the next head it can lower, or to a new pass after an acknowledged change, or to its end (R73).  Under a
TIERS lock it stops at the next head to be tested, and goes on from there once the lock has ended (R74).  Nothing while its own
or an earlier restoration change is in flight (R72). -/
def State.walkStep (s : State) : Option State :=
  match s.restoration with
  | .walking w =>
    let locked := s.lockHas (·.tiers)
    if w.mine.isSome || s.restorationInFlight || (locked && w.stopped.isSome) then none
    else
      match s.walkTarget w locked with
      | some h =>
        if locked then some { s with restoration := .walking { w with next := headPlace h, stopped := some h } }
        else
          let s1 := { s with
            restoration := .walking { w with next := headPlace h + 1, mine := some h, stopped := none } }
          some (s1.account (s1.openChange h ((s.tier h).tier - 1) .restoration) true)
      | none =>
        if w.acked then some { s with restoration := .walking .fresh }
        else some { s with restoration := .idle }
  | _ => none

end Sys2Proof.Machine
end

