-- ==== Sys2Proof/Machine/Notices.lean ====
section
/-!
DEFINITION. Raising notices (R133 to R135).
-/

namespace Sys2Proof.Machine

/-- PREEMPTED and FORCED are blocking notices (R135). -/
def NoticeKind.blocking : NoticeKind → Bool
  | .preempted | .forced => true
  | .granted | .idleReleased | .privacy | .changed => false

/-- Equal in kind, source and screen, absent fields counting as equal (R133). -/
def Notice.same (a b : Notice) : Bool := a.kind = b.kind ∧ a.source = b.source ∧ a.screen = b.screen

/-- A notice is put in the list of a desk that is INITIAL or UP: a duplicate is not added, a fifth takes the place of the
newest with its overflow mark set, and one that joins an empty list is sent (R133, R134). -/
def State.listNotice (s : State) (d : Desk) (n : Notice) : State :=
  if !s.deskLive d then s
  else
    let l := s.noticeList d
    if l.any (·.same n) then s
    else if l.length < Config.noticeCapacity then
      let s1 := s.setNotices d (l ++ [n])
      if l.isEmpty then s1.sendDesk d (.deskNotice d n) else s1
    else s.setNotices d (l.dropLast ++ [{ n with overflow := true }])

/-- The waiting request of a desk is answered CANCELLED and leaves the stack (R135, R180). -/
def State.cancelWaiting (s : State) (d : Desk) (detail : Detail) : State :=
  match (s.stack d).waiting with
  | none => s
  | some r =>
    (s.respond d r.number ⟨.cancelled, r.body.kind, detail, []⟩).setStack d { s.stack d with waiting := none }

/-- The source that a control request names (R135). -/
def RequestBody.controlSource : RequestBody → Option Source
  | .take source _ _ | .share source => Byte.within 24 source
  | .connect .. | .disconnect _ | .scan .. | .recall _ | .release | .withdraw => none

/-- The executing request of a desk is answered CANCELLED when it is a control request that names the notice's source (R135): one
that has followed a request answered in this taking and is still to begin. -/
def State.cancelControl (s : State) (d : Desk) (src : Option Source) (detail : Detail) : State :=
  match (s.stack d).executing with
  | none => s
  | some e =>
    if src.isSome ∧ e.request.body.controlSource = src then s.answerDesk d .cancelled detail [] else s

/-- A notice is raised for a desk (R133, R135).  A blocking notice cancels the waiting request first, and then an executing
control request that names its source; a connection request is concerned by a FORCED notice naming a screen alone
(`State.raiseForced`). -/
def State.raiseNotice (s : State) (d : Desk) (k : NoticeKind) (src : Option Source) (scr : Option ScreenIx) : State :=
  let s1 := if k.blocking && s.deskLive d then (s.cancelWaiting d k.detail).cancelControl d src k.detail else s
  s1.listNotice d { kind := k, source := src, screen := scr, overflow := false }

/-- The list holds a blocking notice (R136). -/
def State.held (s : State) (d : Desk) : Bool := (s.noticeList d).any (·.kind.blocking)

end Sys2Proof.Machine
end

