-- ==== Sys2Proof/Machine/Table.lean ====
section
/-!
DEFINITION. The Connection Table at work (Chapter 1): the content due on a screen and its posting, the entry of a record
into a stable state with all that follows, and the re-admission list.
-/

namespace Sys2Proof.Machine

/-! ## Posting (R6, R8) -/

/-- The card of a WAITING record (R26). -/
def State.waitingCard (s : State) (h : HeadId) : Card :=
  match s.head h with
  | .unsupported _ => .outOfRange
  | _ => .noSignal

/-- The content due on a record's screen (the table of record states, section 1.3; R6).  An ADMITTING record calls for no
change from what the screen shows. -/
def State.contentDue (s : State) (c : Conn) : Content :=
  if !s.deskLive c.desk then .card .blank
  else match c.state with
    | .waiting => .card (s.waitingCard c.head)
    | .admitting => (s.position c.screen).shown
    | .switching | .live => .route c.head
    | .suspended .budget => .card .bandwidth
    | .suspended .privacy => .card .privacy
    | .suspended .deskAbsent => .card .blank
    | .fault => .card .fault

/-- Post a content for a screen: nothing where it is already pending; the pending change withdrawn where the map holds it and
`force` does not ask for it all the same (R6, R8). -/
def State.post (s : State) (scr : ScreenId) (content : Content) (force : Bool) : State :=
  let p := s.position scr
  if p.pending = some content then s
  else if p.shown = content && !force then s.setPosition scr { p with pending := none }
  else s.setPosition scr { p with pending := some content }

/-- Post the content due for a record.  Nothing is posted for an ADMITTING record (R6), on a screen whose commit awaits its
frame event (R162), or for an old record whose replacement has posted (R21).  A replacement record posts even what the map
holds (R6, R21), and so does a record at step 3 (R6); this goes before the withdrawal of the pending change that R25, R32 and R167 give
where the map holds the content due: DEDUCED (log entry 71). -/
def State.postFor (s : State) (h : Handle) : State :=
  match s.conn? h with
  | none => s
  | some c =>
    if c.state = .admitting || s.commitHolds c.screen then s
    else if c.replaces.isSome then (s.post c.screen (s.contentDue c) true).setConn { c with posted := true }
    else if (s.connsAt c.screen).any fun r => r.replaces = some h && r.posted then s
    else s.post c.screen (s.contentDue c) (c.step = some .switch)

/-- Post the content due on a screen under what stands on it: a replacement record that has a content, else the record on
it, else BLANK (R6, R25, R32). -/
def State.repost (s : State) (scr : ScreenId) : State :=
  if s.commitHolds scr then s
  else
    match (s.connsAt scr).find? fun c => c.replaces.isSome && c.state ≠ .admitting with
    | some r => s.postFor r.handle
    | none =>
      match s.screenConn scr with
      | none => s.post scr (.card .blank) false
      | some c => if c.state = .admitting then s.post scr (s.contentDue c) false else s.postFor c.handle

/-! ## The re-admission list (R28) -/

/-- Records are put on the re-admission list in handle order: those not listed already, and not being replaced (R21). -/
def State.listReadmit (s : State) (t : Trigger) (p : Conn → Bool) : State :=
  let more := s.conns.filter fun c => p c && !s.beingReplaced c && !s.readmissions.any (·.handle = c.handle)
  { s with readmissions := s.readmissions ++ more.map fun c => ⟨c.handle, t⟩ }

/-- A record is taken off the re-admission list. -/
def State.unlistReadmit (s : State) (h : Handle) : State :=
  { s with readmissions := s.readmissions.filter (·.handle ≠ h) }

/-! ## Lists that follow a record's state -/

/-- A handle put at its place in ascending order. -/
def insertHandle (h : Handle) : List Handle → List Handle
  | [] => [h]
  | x :: rest => if h < x then h :: x :: rest else if h = x then x :: rest else x :: insertHandle h rest

/-- The resumption list holds the records in SUSPENDED(BUDGET) (R70). -/
def State.followBudget (s : State) (h : Handle) (st : RecordState) : State :=
  let l := s.resumption.list
  { s with resumption := { s.resumption with
      list := if st = .suspended .budget then insertHandle h l else l.filter (· ≠ h) } }

/-- A commit learns that a record of its own has become stable (R165). -/
def Slot.recordStable (k : Slot) (h : Handle) (st : RecordState) : Slot :=
  if k.awaiting.contains h then
    { k.forget h with faults := k.faults + (if st = .fault then 1 else 0) }
  else k

/-! ## Scans that follow a record's bring-up -/

/-- The dwell restarts at its full value, and the pause flag follows whether the desk drives the source shown (R143,
R147). -/
def State.restartDwell (s : State) (h : Handle) : State :=
  match s.conn? h with
  | none => s
  | some c =>
    match c.scan with
    | none => s
    | some k =>
      let paused := s.drives c.desk c.source
      let s1 := s.setConn { c with scan := some { k with timer := .running (s.inSeconds k.dwell), paused := paused } }
      if paused = k.paused then s1 else s1.markDesk c.desk

/-! ## Entering a stable state -/

/-- The answer of the request whose bring-up a record carries (R12, R14, R18, R20). -/
def State.answerConn (s : State) (c : Conn) (o : ResponseOutcome) (detail : Detail) (data : List Byte) : State :=
  match c.answerTo with
  | none => s
  | some .desk => s.answerDesk c.desk o detail data
  | some .force => s.answerCommand o detail data

/-- Whether a SCAN's dwell argument is outside its range and was clamped (R141). -/
def clampedDwell (dwell : Nat) : Bool := dwell ≠ 0 && (dwell < 2 || 600 < dwell)

/-- The dwell a SCAN's argument gives (R141). -/
def dwellOf (dwell : Nat) : Nat := if dwell = 0 then 10 else clamp 2 600 dwell

/-- The detail of a desk's DONE: ADJUSTED for a SCAN whose dwell was clamped (R141). -/
def State.doneDetail (s : State) (d : Desk) : Detail :=
  match (s.stack d).executing with
  | some e =>
    match e.request.body with
    | .scan _ dwell _ => if clampedDwell dwell then .adjusted else .noDetail
    | _ => .noDetail
  | none => .noDetail

/-- The DONE of a bring-up, with the state reached (R20). -/
def State.answerDone (s : State) (c : Conn) (st : RecordState) : State :=
  match c.answerTo with
  | some .desk => s.answerConn c .done (s.doneDetail c.desk) [st.code]
  | _ => s.answerConn c .done .noDetail [st.code]

/-- A FORCE_CONNECT that changes what a desk's screen holds gives the desk a CHANGED notice: as its record leaves step 2 to
stay (R33; log entry 6). -/
def State.noteForced (s : State) (c : Conn) : State :=
  if c.answerTo = some .force ∧ c.state = .admitting ∧ c.replaces = none then
    s.raiseNotice c.desk .changed none (some c.screen.screen)
  else s

/-- A record moves to a stable state: its admission is withdrawn, its lock timer stopped, its bring-up ended, the lists
brought up to date, the charges accounted, the content due posted and the notices given.  The answer is left to the caller; a
replacement record's waits for its frame event (R20, R22).  The rules give the PRIVACY and CHANGED notices of one FORCE_CONNECT no
order in the list: DESIGN CHOICE, PRIVACY first (log entry 59). -/
def State.moveTo (s : State) (h : Handle) (st : RecordState) : State :=
  match s.conn? h with
  | none => s
  | some c =>
    let s1 := if c.state = .admitting then s.withdrawAdmission (.record h) else s
    let s2 := if c.state = .switching ∧ c.replaces = none then s1.stopLockTimer c.screen else s1
    let c1 : Conn := { c with
      state := st
      step := none
      auto := none
      prior := none
      answerTo := if c.replaces.isNone then none else c.answerTo }
    let s3 := s2.accounted fun t => (t.setConn c1).followBudget h st
    let s4 : State := { s3 with slots := s3.slots.map (·.recordStable h st) }
    let s5 := if c.auto = some .step then s4.restartDwell h else s4
    let s6 := s5.postFor h
    let s7 := if st = .suspended .privacy then s6.raiseNotice c.desk .privacy (some c.source) none else s6
    s7.noteForced c

/-- A record enters a stable state, and the request of its bring-up is answered DONE with that state (R20).  R100 and R20 give the
PRIVACY notice of a bring-up that privacy ends and its DONE SUSPENDED(PRIVACY) no order on the desk link: DESIGN CHOICE, the notice
is raised first (log entry 58). -/
def State.enter (s : State) (h : Handle) (st : RecordState) : State :=
  match s.conn? h with
  | none => s
  | some c => if c.replaces.isNone then (s.moveTo h st).answerDone c st else s.moveTo h st

/-- The lock timer of a SWITCHING record expires (R14). -/
def State.lockFails (s : State) (h : Handle) : State :=
  match s.conn? h with
  | none => s
  | some c => (s.moveTo h .fault).answerConn c .failed .lockTimeout [4]

/-! ## Grants of an admission -/

/-- A record's admission is granted: the record enters SWITCHING at step 3 and its route is posted (R19). -/
def State.grantRecord (s : State) (h : Handle) : State :=
  match s.conn? h with
  | none => s
  | some c =>
    let s1 := s.accounted fun t =>
      ((t.setConn { c with state := .switching, step := some .switch }).followBudget h .switching)
    let s2 := s1.withdrawAdmission (.record h)
    (s2.postFor h).noteForced c

/-! ## Privacy (R31) -/

/-- The states that a change of privacy holder suspends (R31). -/
def RecordState.withheld : RecordState → Bool
  | .waiting | .admitting | .switching | .live | .fault | .suspended .budget => true
  | .suspended .privacy | .suspended .deskAbsent => false

/-- The Connection Manager takes a change of privacy holder (R31).  R31 gives the moves no order: DESIGN CHOICE, handle order (log
entry 57). -/
def State.withholdFor (s : State) (x : Source) (holder : Option Desk) : State :=
  let hidden : List Conn := match holder with
    | none => []
    | some p => s.conns.filter fun c => c.source = x && c.desk ≠ p && c.state.withheld
  let s1 := hidden.foldl (fun t c => (t.enter c.handle (.suspended .privacy)).unlistReadmit c.handle) s
  s1.listReadmit .privacyChange fun c =>
    c.source = x && c.state = .suspended .privacy &&
      match holder with
      | none => true
      | some p => c.desk = p

end Sys2Proof.Machine
end

