-- ==== Sys2Proof/Machine/Salvo.lean ====
section
/-!
DEFINITION. What head, desk and privacy events do to the entries of staging slots: an arming or armed slot is marked for
validating again (R157, R161), and a commit that awaits its frame event keeps its contents up to date (R162, R163).
-/

namespace Sys2Proof.Machine

/-- The source an entry names. -/
def StageEntry.source? (e : StageEntry) : Option Source := e.target.head?.map (·.source)

/-- An entry names a head. -/
def StageEntry.names (e : StageEntry) (h : HeadId) : Bool := e.target = .head h

/-- An event of R157 reaches entries: each slot with an arm in progress, and each ARMED slot, that has one of them is to be
validated again. -/
def State.touch (s : State) (p : StageEntry → Bool) : State :=
  { s with slots := s.slots.map fun k =>
      if (k.arming.isSome || k.state = .armed) && k.entries.any (fun e => p e.entry) then { k with touched := true }
      else k }

/-- The content due for an entry of a commit (R162).  Of several cases that hold at once, an absent desk comes first, then
privacy, then the route or the card (log entry 45). -/
def State.entryContent (s : State) (e : SlotEntry) : Content :=
  if !s.deskLive e.entry.screen.desk then .card .blank
  else match e.entry.target with
    | .blank => .card .blank
    | .head h =>
      if s.privateToOther h.source e.entry.screen.desk then .card .privacy
      else if e.charged then .route h
      else .card (s.waitingCard h)

/-- An entry stops being charged. -/
def SlotEntry.uncharge (e : SlotEntry) : SlotEntry := { e with charged := false }

/-- An entry leaves its commit: uncharged, its mark released (R163). -/
def SlotEntry.leave (e : SlotEntry) : SlotEntry := { e with charged := false, marks := false }

/-- A slot with some of its entries changed. -/
def Slot.mapEntries (k : Slot) (p : StageEntry → Bool) (f : SlotEntry → SlotEntry) : Slot :=
  { k with entries := k.entries.map fun e => if p e.entry then f e else e }

/-- Change entries of the slots of a kind, as one change of the charges. -/
def State.mapEntries (s : State) (which : Slot → Bool) (p : StageEntry → Bool) (f : SlotEntry → SlotEntry) : State :=
  s.accounted fun t => allSlots.foldl
    (fun u i => if which (u.slot i) then u.setSlot i ((u.slot i).mapEntries p f) else u) t

/-- Entries of every slot stop being charged. -/
def State.uncharge (s : State) (p : StageEntry → Bool) : State := s.mapEntries (fun _ => true) p SlotEntry.uncharge

/-- The entries still in a commit that awaits its frame event. -/
def State.awaitingEvent (s : State) : List SlotEntry :=
  allSlots.flatMap fun i => if (s.slot i).beforeEvent then (s.slot i).entries.filter (·.marks) else []

/-- The pending contents of entries in a commit follow the conditions (R163). -/
def State.repostEntries (s : State) (p : StageEntry → Bool) : State :=
  (s.awaitingEvent.filter fun e => p e.entry).foldl
    (fun t e => t.post e.entry.screen (t.entryContent e) false) s

/-- Entries leave the commits they are in: uncharged, their marks released, and what their screens are then due posted
(R163). -/
def State.leaveCommit (s : State) (p : StageEntry → Bool) : State :=
  let gone := s.awaitingEvent.filter fun e => p e.entry
  let s1 := s.mapEntries Slot.beforeEvent p SlotEntry.leave
  gone.foldl (fun t e => t.repost e.entry.screen) s1

/-- The Stager is told that a head has left ACTIVE (R46, R157, R159, R161, R163). -/
def State.stagerHeadLeft (s : State) (h : HeadId) : State :=
  ((s.uncharge (·.names h)).repostEntries (·.names h)).touch (·.names h)

/-- The Stager is told that a head has moved among ABSENT, SETTLING and UNSUPPORTED (R163). -/
def State.stagerHeadMoved (s : State) (h : HeadId) : State := s.repostEntries (·.names h)

/-- The Stager is told that a head has entered ACTIVE (R45, R157, R161). -/
def State.stagerHeadActive (s : State) (h : HeadId) : State := s.touch (·.names h)

/-- The Stager is told that a source's head count has come to exclude a head (R157). -/
def State.stagerHeadBeyond (s : State) (h : HeadId) : State := s.touch (·.names h)

/-- The Stager is told of a change of a source's privacy holder (R157, R161, R163). -/
def State.stagerPrivacy (s : State) (x : Source) : State :=
  let withheld (e : StageEntry) : Bool := e.source? = some x && s.privateToOther x e.screen.desk
  let hit := s.awaitingEvent.filter fun e => withheld e.entry
  let s1 := s.mapEntries Slot.beforeEvent withheld SlotEntry.uncharge
  let s2 := hit.foldl (fun t e => t.post e.entry.screen (t.entryContent e.uncharge) false) s1
  s2.touch fun e => e.source? = some x

/-- The Stager is told that a desk has gone LOST (R157, R161, R163).  An ARMED slot's entries keep their charges until its
validation disarms it. -/
def State.stagerDeskLost (s : State) (d : Desk) : State :=
  let mine (e : StageEntry) : Bool := e.screen.desk = d
  let s1 := s.mapEntries Slot.beforeEvent mine SlotEntry.uncharge
  (s1.repostEntries mine).touch mine

/-- The Stager is told that a desk has gone DOWN (R157, R163). -/
def State.stagerDeskDown (s : State) (d : Desk) : State :=
  (s.leaveCommit (·.screen.desk = d)).touch (·.screen.desk = d)

/-- The Stager is told that a desk's screen count has fallen (R122, R157, R163). -/
def State.stagerScreens (s : State) (d : Desk) (count : Nat) : State :=
  let beyond (e : StageEntry) : Bool := e.screen.desk = d && count ≤ e.screen.screen.val
  (s.leaveCommit beyond).touch beyond

end Sys2Proof.Machine
end

