-- ==== Sys2Proof/Machine/Arbiter.lean ====
section
/-!
DEFINITION. The Control Arbiter (Chapter 4): claims, grants and what a grant ends, grant passing, idle release, the viewing
requirement.  An action sets the control records first and carries out the work it leaves in the order of R89; then the reports
of driving desks are given, in the order of the changes (R102).
-/

namespace Sys2Proof.Machine

/-! ## Views and claims -/

/-- A desk views a source (R81). -/
def State.views (s : State) (d : Desk) (x : Source) : Bool :=
  s.conns.any fun c => c.desk = d && c.source = x && c.state ≠ .fault

/-- The level a claim's mode needs (R83, R93). -/
def Mode.needs : Mode → Right
  | .exclusive => .control
  | .priv => .priv

/-- A claim joins at the place its rank and stamp give it (R78). -/
def insertClaim (c : Claim) : List Claim → List Claim
  | [] => [c]
  | x :: rest =>
    if x.rank < c.rank ∨ (x.rank = c.rank ∧ c.stamp < x.stamp) then c :: x :: rest else x :: insertClaim c rest

/-- A claim queue ordered by rank descending and then by arrival stamp (R78). -/
def sortClaims (q : List Claim) : List Claim := q.foldl (fun acc c => insertClaim c acc) []

/-- A desk's position in a claim queue, from 1. -/
def claimPosition (q : List Claim) (d : Desk) : Option Nat := (q.findIdx? (·.desk = d)).map (· + 1)

/-- A desk's claim on a source is withdrawn (R92). -/
def State.dropClaim (s : State) (x : Source) (d : Desk) : State := s.setClaims x ((s.claims x).filter (·.desk ≠ d))

/-- The conditions of grant passing on a claim (R93). -/
def State.claimStands (s : State) (x : Source) (c : Claim) : Bool :=
  s.deskLive c.desk && s.views c.desk x && (s.right c.desk x).atLeast c.mode.needs

/-! ## The work an action leaves -/

/-- A step of an action still to be taken (R89). -/
inductive Work where
  /-- grant passing on a source that has lost its drivers, its privacy holder having been as given -/
  | pass (x : Source) (was : Option Desk)
  /-- a desk's claim on another source is withdrawn -/
  | claimElsewhere (d : Desk) (x : Source)
  /-- a desk's holding of another source ends -/
  | holdingElsewhere (d : Desk) (x : Source)
  /-- a desk's membership of another source ends -/
  | memberElsewhere (d : Desk) (x : Source)
  /-- the privacy holder of a source may have changed from the one given -/
  | privacy (x : Source) (was : Option Desk)
  deriving DecidableEq, Repr

/-- The source other than `x` that a desk holds. -/
def State.heldElsewhere (s : State) (d : Desk) (x : Source) : Option Source :=
  allSources.find? fun y => y ≠ x && match s.control y with
    | .held _ p _ => p = d
    | _ => false

/-- The source other than `x` whose share set holds a desk. -/
def State.sharedElsewhere (s : State) (d : Desk) (x : Source) : Option Source :=
  allSources.find? fun y => y ≠ x && match s.control y with
    | .shared ms => ms.contains d
    | _ => false

/-- The source other than `x` that a desk claims. -/
def State.claimedElsewhere (s : State) (d : Desk) (x : Source) : Option Source :=
  allSources.find? fun y => y ≠ x && (s.claims y).any (·.desk = d)

/-- A desk becomes holder of a source; its last input time is the moment of the grant (R84, R86, R88, R93, R94). -/
def State.hold (s : State) (x : Source) (d : Desk) (m : Mode) : State := s.setControl x (.held m d s.now)

/-- What a grant leaves to do, in the order of R89. -/
def grantWork (x : Source) (d : Desk) (was : Option Desk) : List Work :=
  [.claimElsewhere d x, .holdingElsewhere d x, .memberElsewhere d x, .privacy x was]

/-- The driving relations of a source end, and grant passing is to follow (R91, R93). -/
def State.endDriving (s : State) (x : Source) : State × List Work :=
  (s.setControl x .free, [.pass x (s.privacyHolder x)])

/-- A desk leaves a share set: grant passing follows when it was the last (R93), and a single member that remains with a
claim converts the set into a holding (R94). -/
def State.leaveSet (s : State) (x : Source) (d : Desk) : State × List Work :=
  match s.control x with
  | .shared ms =>
    match ms.filter (· ≠ d) with
    | [] => s.endDriving x
    | [m] =>
      let s1 := s.setControl x (.shared [m])
      match (s.claims x).find? (·.desk = m) with
      | some c =>
        let s2 := ((s1.dropClaim x m).hold x m c.mode).raiseNotice m .granted (some x) none
        (s2, grantWork x m none)
      | none => (s1, [])
    | more => (s.setControl x (.shared more), [])
  | _ => (s, [])

/-- Grant passing: the first claim that stands is granted, those before it are dropped; with none left the source is FREE
(R93).  The change of privacy holder of the source that is passed on, or becomes FREE, is reported before that of the source whose
grant ended its holding, which R89 and R99 do not say outright where no third desk is granted: DEDUCED (log entry 69). -/
def State.passGrant (s : State) (x : Source) (was : Option Desk) : State × List Work :=
  let q := (s.claims x).dropWhile fun c => !s.claimStands x c
  match q with
  | [] => (s.setClaims x [], [.privacy x was])
  | c :: rest =>
    let s1 := (s.setClaims x rest).hold x c.desk c.mode
    (s1.raiseNotice c.desk .granted (some x) none, grantWork x c.desk was)

/-- The privacy holder of a source is reported to the Connection Manager and the Layout Stager where it has changed
(R99). -/
def State.reportPrivacy (s : State) (x : Source) (was : Option Desk) : State :=
  if s.privacyHolder x = was then s else (s.withholdFor x (s.privacyHolder x)).stagerPrivacy x

/-- One step of an action, with the work it leaves. -/
def State.doWork (s : State) : Work → State × List Work
  | .pass x was => s.passGrant x was
  | .claimElsewhere d x =>
    match s.claimedElsewhere d x with
    | some y => (s.dropClaim y d, [])
    | none => (s, [])
  | .holdingElsewhere d x =>
    match s.heldElsewhere d x with
    | some y => s.endDriving y
    | none => (s, [])
  | .memberElsewhere d x =>
    match s.sharedElsewhere d x with
    | some y => s.leaveSet y d
    | none => (s, [])
  | .privacy x was => (s.reportPrivacy x was, [])

/-- Carry out the work of an action.  Each grant takes one of at most 96 claims and leaves at most seven steps, so that 1024
steps suffice (R89). -/
def State.runWork : Nat → List Work → State → State
  | _, [], s => s
  | 0, _, s => s
  | n + 1, w :: rest, s =>
    let r := s.doWork w
    State.runWork n (r.2 ++ rest) r.1

/-- Carry an action of the Arbiter to its end; then the Input Router and the Scan Unit take its reports (R89, R102, R147). -/
def State.arbitrate (r : State × List Work) : State := (State.runWork 1024 r.2 r.1).giveReports

/-! ## Idle release (R97) -/

/-- The holder of a source is idle (R96). -/
def State.holderIdle (s : State) (x : Source) : Bool :=
  match s.control x with
  | .held _ _ t =>
    let n := (s.sourceSettings x).controlTimeout
    n ≠ 0 && t + 1000 * n ≤ s.now
  | _ => false

/-- The conditions of R97: the holder idle, a claim waiting, no room lock with CONTROL. -/
def State.idleDue (s : State) (x : Source) : Bool :=
  s.holderIdle x && !(s.claims x).isEmpty && !s.lockHas (·.control)

/-- The test for idle release, and the release where it is due (R97). -/
def State.idleTest (s : State) (x : Source) : State :=
  if s.idleDue x then
    match s.control x with
    | .held _ d _ => State.arbitrate ((s.raiseNotice d .idleReleased (some x) none).endDriving x)
    | _ => s
  else s

/-! ## Loss of view and loss of a desk (R82, R95) -/

/-- A desk's relations to one source end: claim, holding, membership. -/
def State.endRelations (s : State) (x : Source) (d : Desk) : State :=
  let s1 := s.dropClaim x d
  match s1.control x with
  | .held _ p _ => if p = d then State.arbitrate (s1.endDriving x) else s1
  | .shared ms => if ms.contains d then State.arbitrate (s1.leaveSet x d) else s1
  | .free => s1

/-- The Connection Manager reports that a record of a desk no longer names a source (R82). -/
def State.viewReport (s : State) (d : Desk) (x : Source) : State :=
  if s.conns.any fun c => c.desk = d && c.source = x then s else s.endRelations x d

/-- A desk has been lost or reset: its claim, then its holding, then its membership end (R95). -/
def State.endDeskRelations (s : State) (d : Desk) : State :=
  let s1 := match s.claimedBy d with
    | some x => s.dropClaim x d
    | none => s
  let s2 := match s1.heldBy d with
    | some x => State.arbitrate (s1.endDriving x)
    | none => s1
  match s2.sharedBy d with
  | some x => State.arbitrate (s2.leaveSet x d)
  | none => s2

/-! ## TAKE, SHARE, RELEASE, WITHDRAW (R83 to R92) -/

/-- What a request of the control group is answered. -/
structure Answer where
  outcome : ResponseOutcome
  detail : Detail
  data : List Byte
  deriving DecidableEq, Repr

def Answer.done (data : List Byte) : Answer := ⟨.done, .noDetail, data⟩

def Answer.refused (d : Detail) : Answer := ⟨.refused, d, []⟩

/-- The mode a byte names (R196). -/
def modeOf (b : Byte) : Option Mode := if b = 0 then some .exclusive else if b = 1 then some .priv else none

/-- Whether a preempt-flag byte is set; a byte other than 0 and 1 is open (log entry 21). -/
def preemptOf (b : Byte) : Bool := if b = 0 then false else if b = 1 then true else Config.oddPreemptFlag b

def State.rank (s : State) (d : Desk) : Nat := (s.deskSettings d).rank

/-- A TAKE goes to the claim queue (R87). -/
def State.queueClaim (s : State) (x : Source) (d : Desk) (m : Mode) : State × List Work × Answer :=
  let q := s.claims x
  let queued (q : List Claim) : Answer := .done [queuedCode, byte ((claimPosition q d).getD 0)]
  if q.any (·.desk = d) then
    let q1 := q.map fun c => if c.desk = d then { c with mode := m } else c
    (s.setClaims x q1, [], queued q1)
  else if Config.claimQueueCapacity ≤ q.length then (s, [], .refused .queueFull)
  else
    let s1 := match s.claimedElsewhere d x with
      | some y => s.dropClaim y d
      | none => s
    let n := s1.arrivals + 1
    let q1 := insertClaim { desk := d, rank := s.rank d, mode := m, stamp := n } q
    ({ s1 with arrivals := n }.setClaims x q1, [], queued q1)

/-- A TAKE that has passed its checks (R84 to R88). -/
def State.grantOrQueue (s : State) (x : Source) (d : Desk) (m : Mode) (preempt : Bool) : State × List Work × Answer :=
  let was := s.privacyHolder x
  let granted (t : State) : State × List Work × Answer :=
    ((t.dropClaim x d).hold x d m, grantWork x d was, .done [m.stateCode])
  match s.control x with
  | .free => granted s
  | .held m0 p t =>
    if p = d then
      if m0 = m then (s, [], .done [m.stateCode])
      else (s.setControl x (.held m d t), [.privacy x was], .done [m.stateCode])
    else if preempt && s.rank p < s.rank d then
      let g := granted s
      (g.1.raiseNotice p .preempted (some x) none, g.2)
    else s.queueClaim x d m
  | .shared ms =>
    if ms = [d] then granted s
    else if preempt && ms.all fun p => p = d || s.rank p < s.rank d then
      let g := granted s
      ((ms.filter (· ≠ d)).foldl (fun t p => t.raiseNotice p .preempted (some x) none) g.1, g.2)
    else s.queueClaim x d m

/-- TAKE (R83). -/
def State.doTake (s : State) (d : Desk) (source mode preempt : Byte) : State × List Work × Answer :=
  match Byte.within 24 source, modeOf mode with
  | some x, some m =>
    if !(s.right d x).atLeast m.needs then (s, [], .refused .noRight)
    else if !s.views d x then (s, [], .refused .notViewing)
    else s.grantOrQueue x d m (preemptOf preempt)
  | _, _ => (s, [], .refused .badArgument)

/-- SHARE (R90). -/
def State.doShare (s : State) (d : Desk) (source : Byte) : State × List Work × Answer :=
  match Byte.within 24 source with
  | none => (s, [], .refused .badArgument)
  | some x =>
    if !(s.right d x).atLeast .share then (s, [], .refused .noRight)
    else if !s.views d x then (s, [], .refused .notViewing)
    else
      let was := s.privacyHolder x
      let done : Answer := .done [sharedCode]
      let elsewhere : List Work := [.holdingElsewhere d x, .memberElsewhere d x]
      match s.control x with
      | .free => (s.setControl x (.shared [d]), elsewhere, done)
      | .shared ms =>
        if ms.contains d then (s, [], done) else (s.setControl x (.shared (ms ++ [d])), elsewhere, done)
      | .held _ p _ =>
        if p = d then (s.setControl x (.shared [d]), [.privacy x was], done) else (s, [], .refused .wrongState)

/-- RELEASE (R91). -/
def State.doRelease (s : State) (d : Desk) : State × List Work × Answer :=
  match s.heldBy d with
  | some x => let r := s.endDriving x; (r.1, r.2, .done [])
  | none =>
    match s.sharedBy d with
    | some x => let r := s.leaveSet x d; (r.1, r.2, .done [])
    | none => (s, [], .refused .notHolder)

/-- WITHDRAW (R92). -/
def State.doWithdraw (s : State) (d : Desk) : State × List Work × Answer :=
  match s.claimedBy d with
  | some x => (s.dropClaim x d, [], .done [])
  | none => (s, [], .refused .notMember)

/-- FORCE_RELEASE of a source: what it answers (R101). -/
def State.doForceRelease (s : State) (x : Source) : State × List Work × Detail :=
  match s.control x with
  | .free => (s, [], .notHeld)
  | c =>
    let r := s.endDriving x
    (c.drivers.foldl (fun t d => t.raiseNotice d .forced (some x) none) r.1, r.2, .noDetail)

end Sys2Proof.Machine
end

