-- ==== Sys2Proof/Machine/Connect.lean ====
section
/-!
DEFINITION. The Connection Manager's work on records (Chapter 1): retirement, abandonment and supersession, and the bring-up
of a record from step 2 on.
-/

namespace Sys2Proof.Machine

/-! ## Retirement (R25) -/

/-- A record leaves the table: its admission is withdrawn, its lock timer stopped, its charges released, and the Control
Arbiter told (R25, R82).  Nothing is posted yet. -/
def State.dropConn (s : State) (h : Handle) : State :=
  match s.conn? h with
  | none => s
  | some c =>
    let s1 := s.withdrawAdmission (.record h)
    let s2 := if c.replaces.isNone then s1.stopLockTimer c.screen else s1
    (s2.accounted fun t => t.removeConn h).viewReport c.desk c.source

/-- A record is retired or discarded, and the content due on its screen under what remains is posted (R25). -/
def State.retire (s : State) (h : Handle) : State :=
  match s.conn? h with
  | none => s
  | some c => (s.dropConn h).repost c.screen

/-- Records that one event ends are retired, and reported to the Control Arbiter, one by one in handle order.  R30, R122, R25 and
R82 give no order, on which a grant passed in between can depend: DESIGN CHOICE (log entry 57). -/
def State.retireAll (s : State) (p : Conn → Bool) : State :=
  ((s.conns.filter p).map (·.handle)).foldl State.retire s

/-! ## Abandonment (R32) -/

/-- A requested bring-up has had its route applied: it is at step 4 (R32). -/
def Conn.atLock (c : Conn) : Bool := c.step = some .lock

/-- The bring-up of a request is abandoned: at step 4 the record stays and only ceases to be the request's; before, a record
re-admitted in place returns to the state it had, and a fresh or replacement record is discarded; then the content due on
the screen is posted (R32).  A scan sub-record that the record re-admitted in place took from the request goes with the request
(R142; log entry 40).  A return to SUSPENDED(PRIVACY), which log entry 22 alone makes possible, raises no PRIVACY notice, though R100
can be read to give one: DESIGN CHOICE (log entry 70).  A record that a commit's event adopts from a superseded request at step 4
likewise loses the bring-up step at that event and not, as R165 can be read, as it becomes stable: DESIGN CHOICE (log entry 62).
The answer is left to the caller. -/
def State.abandon (s : State) (h : Handle) : State :=
  match s.conn? h with
  | none => s
  | some c =>
    if c.atLock then s.setConn { c with answerTo := none, step := none }
    else match c.prior with
      | some st =>
        let s1 := s.withdrawAdmission (.record h)
        let s2 := s1.accounted fun t =>
          (t.setConn { c with
            state := st, step := none, answerTo := none, auto := none, prior := none, scan := none }).followBudget h st
        s2.repost c.screen
      | none => s.retire h

/-- The record that a desk's executing request has in flight. -/
def State.requestedConn (s : State) (d : Desk) : Option Conn :=
  s.conns.find? fun c => c.desk = d && c.answerTo = some .desk

/-- The record that a FORCE_CONNECT has in flight. -/
def State.forcedConn (s : State) : Option Conn := s.conns.find? fun c => c.answerTo = some .force

/-- The desk request whose bring-up is in flight on a screen is superseded (R33, R34, R164): abandoned, and answered CANCELLED
with SUPERSEDED.  At a commit's event the lock timer of a record at step 4 runs on, since the commit may adopt it (R164). -/
def State.supersede (s : State) (scr : ScreenId) : State :=
  match (s.connsAt scr).find? (·.answerTo = some .desk) with
  | none => s
  | some c => (s.abandon c.handle).answerDesk scr.desk .cancelled .superseded []

/-- A force supersedes the desk request in flight on its screen; at step 4 the lock timer of the record it leaves stops (R11,
R33, R34). -/
def State.forceSupersedes (s : State) (scr : ScreenId) : State :=
  let atLock := (s.connsAt scr).any fun c => c.answerTo = some .desk && c.atLock
  if atLock then (s.supersede scr).stopLockTimer scr else s.supersede scr

/-! ## Step 2 (R18, R28) -/

/-- An admission of a record has been refused.  An automatic one leaves the record SUSPENDED(BUDGET) (R28, R71); a requested
one is answered FAILED at step 2, its new record discarded or the record re-admitted in place returned to what it was (R18,
R23). -/
def State.refuseRecord (s : State) (h : Handle) (detail : Detail) : State :=
  match s.conn? h with
  | none => s
  | some c =>
    if c.auto.isSome then s.enter h (.suspended .budget)
    else (s.abandon h).answerConn c .failed detail [2]

/-- A record in ADMITTING asks for its admission with raises allowed (R18, R57). -/
def State.askAdmission (s : State) (h : Handle) : State :=
  match s.conn? h with
  | none => s
  | some c =>
    match s.beginAdmission (.record h) [⟨c.head, c.screen⟩] with
    | (s1, .granted) => s1.grantRecord h
    | (s1, .refused _ _) => s1.refuseRecord h .noBandwidth
    | (s1, .waiting) => s1

/-- Step 2 of a record standing in ADMITTING (R17, R18): a force on a source private to another desk suspends it (R33); a head
that is not ACTIVE leaves it WAITING; else its admission is asked. -/
def State.stepTwo (s : State) (h : Handle) : State :=
  match s.conn? h with
  | none => s
  | some c =>
    if c.answerTo = some .force && s.privateToOther c.source c.desk then s.enter h (.suspended .privacy)
    else if !s.headActive c.head then s.enter h .waiting
    else s.askAdmission h

/-- A new record (R1), standing in ADMITTING at step 2. -/
def newConn (h : Handle) (scr : ScreenId) (head : HeadId) (o : Origin) (k : Option Scan) (replaces : Option Handle)
    (who : Requester) : Conn where
  handle := h
  screen := scr
  head := head
  state := .admitting
  reservation := 0
  origin := o
  step := some .admission
  scan := k
  replaces := replaces
  answerTo := some who
  auto := none
  posted := false
  prior := none

/-- A fresh connection (R15, R18): the record takes the lowest free resident handle. -/
def State.connectFresh (s : State) (scr : ScreenId) (head : HeadId) (o : Origin) (k : Option Scan) (who : Requester) :
    State :=
  match s.lowestFree with
  | none => s
  | some h => (s.createConn (newConn h scr head o k none who)).stepTwo h

/-- A replacement (R18, R21): the record takes the desk's transfer handle, and the old record is taken off the re-admission
list. -/
def State.connectReplacing (s : State) (old : Conn) (head : HeadId) (o : Origin) (k : Option Scan) (who : Requester) :
    State :=
  let h := transferHandle old.desk
  ((s.createConn (newConn h old.screen head o k (some old.handle) who)).unlistReadmit old.handle).stepTwo h

/-- The record of a same-head connection with its origin and scan as the connection gives them (R17, R142). -/
def Conn.adopt (c : Conn) (o : Origin) (k : Option Scan) : Conn := { c with origin := o, scan := k }

/-- A bring-up taken over at step 4 has its lock timer running: a timer that a force has stopped starts afresh (log entry
23). -/
def State.runLockTimer (s : State) (scr : ScreenId) : State :=
  if (s.position scr).lockTimer.isNone then s.startLockTimer scr else s

/-- A same-head connection (R17): a record re-admitted in place goes to step 2 (R18).  The caller has made sure that the request
need not wait.  R17's last sentence leaves open whether the re-admission in place itself takes the record off the re-admission list:
DESIGN CHOICE, it does so at once, whatever becomes of the request (log entry 68). -/
def State.connectSame (s : State) (c : Conn) (o : Origin) (k : Option Scan) (who : Requester) : State :=
  let mine := c.adopt o k
  let atOnce := (s.setConn mine).answerDone { mine with answerTo := some who } c.state
  let inPlace :=
    ((s.setConn { mine with
      state := .admitting, step := some .admission, answerTo := some who, auto := none, prior := some c.state }).unlistReadmit
        c.handle).stepTwo c.handle
  match c.state with
  | .live | .waiting | .suspended .deskAbsent => atOnce
  | .fault | .suspended .budget => inPlace
  | .switching => (s.setConn { mine with step := some .lock, answerTo := some who }).runLockTimer c.screen
  | .suspended .privacy => if s.privateToOther c.source c.desk then atOnce else inPlace
  | .admitting => atOnce

/-! ## Re-admission (R28) and resumption (R71) -/

/-- The states that a trigger of re-admission covers (R28). -/
def Trigger.covers : Trigger → RecordState → Bool
  | .headActive, .waiting | .headActive, .fault => true
  | .deskReturn, .suspended .deskAbsent => true
  | .privacyChange, .suspended .privacy => true
  | .commit, .waiting => true
  | _, _ => false

/-- A requested bring-up is in flight on a record (R28, R71).  A replacement that has reached WAITING or SUSPENDED and awaits its frame
event has none any more for the turn of its re-admission, its step being removed (R2): DESIGN CHOICE (log entry 63). -/
def Conn.requested (c : Conn) : Bool := c.answerTo.isSome && c.step.isSome && c.auto.isNone

/-- A record goes to ADMITTING for an automatic bring-up. -/
def State.autoAdmit (s : State) (c : Conn) (a : Automatic) : State :=
  let s1 := s.accounted fun t => t.setConn { c with state := .admitting, step := some .admission, auto := some a }
  s1.askAdmission c.handle

/-- The re-admission of one record taken from the list (R28). -/
def State.readmit (s : State) (r : Readmit) : State :=
  match s.conn? r.handle with
  | none => s
  | some c =>
    if s.beingReplaced c || c.requested || !r.trigger.covers c.state then s
    else if !s.deskLive c.desk then s.enter c.handle (.suspended .deskAbsent)
    else if s.privateToOther c.source c.desk then s.enter c.handle (.suspended .privacy)
    else if !s.headActive c.head then s.enter c.handle .waiting
    else s.autoAdmit c .readmission

/-- A re-admission from the list is at step 2 (R28). -/
def State.readmitting (s : State) : Bool :=
  s.conns.any fun c => c.auto = some .readmission && c.step = some .admission

/-- The next record is taken from the re-admission list, when it can be (R28). -/
def State.readmitNext (s : State) : Option State :=
  if s.readmitting then none
  else match s.readmissions with
    | [] => none
    | r :: rest => some ({ s with readmissions := rest }.readmit r)

/-- The record taken by the resumption pass is still at step 2 (R71). -/
def State.resuming (s : State) : Bool :=
  s.conns.any fun c => c.auto = some .resumption && c.step = some .admission

/-- The resumption pass goes on (R71): a pass that is due begins; a running pass takes the next listed record, passing over
one with a requested bring-up in flight, or ends. -/
def State.resumeNext (s : State) : Option State :=
  let r := s.resumption
  if !r.running then
    if r.due then some { s with resumption := { r with running := true, last := none, due := false } } else none
  else if s.resuming then none
  else
    let above (h : Handle) : Bool := match r.last with
      | none => true
      | some l => l < h
    match r.list.find? above with
    | none => some { s with resumption := { r with running := false, last := none } }
    | some h =>
      let s1 := { s with resumption := { r with last := some h } }
      match s.conn? h with
      | none => some s1
      | some c => if c.requested || c.state ≠ .suspended .budget then some s1 else some (s1.autoAdmit c .resumption)

end Sys2Proof.Machine
end

