-- ==== Sys2Proof/Machine/Stager.lean ====
section
/-!
DEFINITION. The Layout Stager (Chapter 8): loading, validation, arming, disarming, revalidation and the beginning and end of
a commit.
-/

namespace Sys2Proof.Machine

/-! ## Loading (R152, R153) -/

/-- Of two entries for one screen the earlier is removed and the later keeps its place (R152). -/
def collapse : List StageEntry → List StageEntry
  | [] => []
  | e :: rest => if rest.any (·.screen = e.screen) then collapse rest else e :: collapse rest

/-- A loaded entry: neither charged nor marking. -/
def SlotEntry.load (e : StageEntry) : SlotEntry := { entry := e, charged := false, marks := false }

/-- A slot loaded with a list and an owner (R153, R166). -/
def Slot.loaded (es : List StageEntry) (o : Owner) : Slot :=
  { Slot.fresh with state := .loaded, owner := some o, entries := (collapse es).map SlotEntry.load }

/-- A slot is LOADED or EMPTY with no arm in progress (R153, R154). -/
def Slot.idle (k : Slot) : Bool := (k.state = .empty ∨ k.state = .loaded) && k.arming.isNone

/-! ## Validation (R155) -/

/-- The first check of R155 that an entry of a slot fails. -/
def State.entryFailure (s : State) (i : SlotIx) (owner : Option Owner) (e : StageEntry) : Option Detail :=
  let scr := e.screen
  if !s.deskLive scr.desk then some .deskAbsent
  else if !s.screenExists scr then some .badArgument
  else
    let overlap := allSlots.any fun j => j ≠ i && (s.slot j).marksScreen scr
    match e.target with
    | .blank => if overlap then some .overlap else none
    | .head h =>
      if !s.headExists h then some .badArgument
      else
        let allowed := match owner with
          | some (.desk d) => (s.right d h.source).atLeast .view
          | _ => true
        if !allowed then some .noRight
        else if overlap then some .overlap
        else if s.privateToOther h.source scr.desk then some .privateInUse
        else none

/-- The first failing entry of a list, numbered from `n`, with its reason. -/
def State.firstFailure (s : State) (i : SlotIx) (owner : Option Owner) : Nat → List SlotEntry → Option (Nat × Detail)
  | _, [] => none
  | n, e :: rest =>
    match s.entryFailure i owner e.entry with
    | some d => some (n, d)
    | none => s.firstFailure i owner (n + 1) rest

/-- The validation of a slot (R155); its own marks are not taken as overlap (R161). -/
def State.validate (s : State) (i : SlotIx) : Option (Nat × Detail) :=
  s.firstFailure i (s.slot i).owner 1 (s.slot i).entries

/-! ## Admissions of a slot (R63, R156, R161) -/

/-- The placements of entries (R63). -/
def placementsOf (es : List SlotEntry) : List Placement :=
  es.filterMap fun e => e.entry.target.head?.map fun h => ⟨h, e.entry.screen⟩

/-- The entry that a refusal for bandwidth names: the first whose desk total or source total overflows (R63). -/
def overflowIndex (es : List SlotEntry) (desks : List Desk) (sources : List Source) : Nat :=
  (es.findIdx fun e => desks.contains e.entry.screen.desk ||
    match e.entry.target.head? with
    | some h => sources.contains h.source
    | none => false) + 1

/-- Two heads count toward one total (R58, R63): both are summed in a source total, or each charges a screen of one desk, be it
the desk of a placement or another that shows them. -/
def State.countTogether (s : State) (pl : List Placement) (h t : HeadId) : Bool :=
  let both (l : List HeadId) : Bool := l.contains h && l.contains t
  both (s.sourceHeads pl t.source) || allDesks.any fun d => both (s.chargingHeads [] pl d)

/-- The entry that a refusal for a timeout names: the first whose head counts toward a total containing the head that timed
out, or entry 1 (R63; log entry 41).  An entry whose head is not ACTIVE is left out of the totals (R57). -/
def State.timeoutIndex (s : State) (es : List SlotEntry) (all : List Placement) (t : HeadId) : Nat :=
  let pl := s.activePlacements all
  match es.findIdx? fun e => match e.entry.target.head? with
    | some h => s.headActive h && s.countTogether pl h t
    | none => false with
  | some n => n + 1
  | none => 1

/-! ## Emptying and answering -/

/-- A slot becomes EMPTY with nothing kept (R151). -/
def State.emptySlot (s : State) (i : SlotIx) : State := s.accounted fun t => t.setSlot i Slot.fresh

/-- The desk whose RECALL works on a slot. -/
def State.recallingDesk (s : State) (i : SlotIx) : Option Desk :=
  allDesks.find? fun d => match (s.stack d).executing with
    | some e => e.phase = .recall i
    | none => false

/-- The answer of the RECALL that works on a slot. -/
def State.answerRecall (s : State) (i : SlotIx) (o : ResponseOutcome) (detail : Detail) (data : List Byte) : State :=
  match s.recallingDesk i with
  | some d => s.answerDesk d o detail data
  | none => s

/-- The arming of a slot fails with an entry's index and a reason (R155, R156, R167). -/
def State.armFails (s : State) (i : SlotIx) (who : Owner) (n : Nat) (reason : Detail) : State :=
  let s1 := s.withdrawAdmission (.arming i)
  match who with
  | .supervisor =>
    (s1.setSlot i { s1.slot i with arming := none, touched := false, failure := some (n, reason) }).answerCommand
      .failed reason [byte n]
  | .desk _ => (s1.emptySlot i).answerRecall i .failed reason [byte n]

/-! ## Commit (R162, R165) -/

/-- An ARMED slot becomes COMMITTING, and the content due for each entry is posted (R162). -/
def State.beginCommit (s : State) (i : SlotIx) : State :=
  let s1 := s.setSlot i { s.slot i with
    state := .committing, stage := some .beforeEvent, holdTimer := none, commitDue := false, touched := false }
  (s1.slot i).entries.foldl (fun t e => t.post e.entry.screen (t.entryContent e) false) s1

/-- A commit with no record left to become stable completes: the slot becomes EMPTY, and the request is answered with the
count of FAULT records (R165). -/
def State.completeCommit (s : State) (i : SlotIx) : State :=
  let n := (s.slot i).faults
  let s1 := s.emptySlot i
  match s1.command with
  | some (.commit j) => if j = i then s1.answerCommand .done .noDetail [byte n] else s1.answerRecall i .done .noDetail [byte n]
  | _ => s1.answerRecall i .done .noDetail [byte n]

/-! ## Arming (R156) -/

/-- An entry as the grant leaves it: marking its screen, and charged where its head is ACTIVE (R156). -/
def State.armEntry (s : State) (e : SlotEntry) : SlotEntry :=
  { e with marks := true, charged := match e.entry.target.head? with
      | some h => s.headActive h
      | none => false }

/-- Another slot's arming meets the marks of a slot that has become ARMED (R157). -/
def State.touchOverlapping (s : State) (i : SlotIx) : State :=
  let mine := (s.slot i).entries
  { s with slots := s.slots.map fun k =>
      if k.arming.isSome && k.entries.any (fun e => mine.any (·.entry.screen = e.entry.screen)) then
        { k with touched := true }
      else k }

/-- The arming of a slot is granted (R156): a supervisory ARM is answered DONE and the arm hold timer started; a RECALL's slot
is committed in the same taking (R167). -/
def State.grantArm (s : State) (i : SlotIx) (who : Owner) : State :=
  let hold := match who with
    | .supervisor => some (s.inSeconds s.room.armHold)
    | .desk _ => none
  let s1 := s.accounted fun t => t.setSlot i { t.slot i with
    state := .armed, arming := none, entries := (t.slot i).entries.map t.armEntry, holdTimer := hold, failure := none,
    touched := false }
  let s2 := (s1.withdrawAdmission (.arming i)).touchOverlapping i
  match who with
  | .supervisor => s2.answerCommand .done .noDetail []
  | .desk _ => s2.beginCommit i

/-- A slot is validated and, when it passes, admitted as one admission (R155, R156). -/
def State.startArming (s : State) (i : SlotIx) (who : Owner) : State :=
  match s.validate i with
  | some (n, reason) => s.armFails i who n reason
  | none =>
    let s1 := s.setSlot i { s.slot i with arming := some who, touched := false }
    match s1.beginAdmission (.arming i) (placementsOf (s1.slot i).entries) with
    | (s2, .granted) => s2.grantArm i who
    | (s2, .refused ds xs) => s2.armFails i who (overflowIndex (s2.slot i).entries ds xs) .noBandwidth
    | (s2, .waiting) => s2

/-! ## Disarming and revalidation (R160, R161) -/

/-- A slot is disarmed (R160), with a new last failure where one is given; a COMMIT that waited is answered FAILED with it
(R162). -/
def State.disarm (s : State) (i : SlotIx) (failure : Option (Nat × Detail)) : State :=
  let due := (s.slot i).commitDue
  let s1 := s.accounted fun t =>
    let u := t.withdrawAdmission (.revalidation i)
    u.setSlot i { u.slot i with
      state := .loaded, holdTimer := none, touched := false, commitDue := false, failure := failure,
      entries := (u.slot i).entries.map SlotEntry.leave }
  match due, failure with
  | true, some (n, reason) => s1.answerCommand .failed reason [byte n]
  | _, _ => s1

/-- The entries of an ARMED slot whose head is ACTIVE and not charged (R161). -/
def State.unchargedActive (s : State) (k : Slot) : List SlotEntry :=
  k.entries.filter fun e => !e.charged && match e.entry.target.head? with
    | some h => s.headActive h
    | none => false

/-- A revalidation admission is granted: its entries become charged (R161). -/
def State.grantRevalidation (s : State) (i : SlotIx) (pl : List Placement) : State :=
  let s1 := s.accounted fun t => t.setSlot i { t.slot i with
    entries := (t.slot i).entries.map fun e => match e.entry.target.head? with
      | some h => if pl.contains ⟨h, e.entry.screen⟩ then { e with charged := true } else e
      | none => e }
  s1.withdrawAdmission (.revalidation i)

/-- An ARMED slot is revalidated (R161). -/
def State.revalidate (s : State) (i : SlotIx) : State :=
  let s1 := s.withdrawAdmission (.revalidation i)
  let s2 := s1.setSlot i { s1.slot i with touched := false }
  match s2.validate i with
  | some f => s2.disarm i (some f)
  | none =>
    match s2.unchargedActive (s2.slot i) with
    | [] => s2
    | es =>
      let pl := placementsOf es
      match s2.beginAdmission (.revalidation i) pl with
      | (s3, .granted) => s3.grantRevalidation i pl
      | (s3, .refused ds xs) => s3.disarm i (some (overflowIndex (s3.slot i).entries ds xs, .noBandwidth))
      | (s3, .waiting) => s3

/-- A slot that an event of R157 has touched is validated afresh: its arming is restarted (R157), or it is revalidated
(R161). -/
def State.validateAgain (s : State) (i : SlotIx) : State :=
  match (s.slot i).arming with
  | some who => (s.withdrawAdmission (.arming i)).startArming i who
  | none =>
    if (s.slot i).state = .armed then s.revalidate i else s.setSlot i { s.slot i with touched := false }

/-! ## The end of a RECALL before its commit is applied (R167) -/

/-- Whether cancelling or abandoning the RECALL that works on a slot still takes effect: its arm is in progress, or its commit
awaits its frame event (R167). -/
def Slot.recallOpen (k : Slot) : Bool := k.arming.isSome || k.beforeEvent

/-- A RECALL's slot is emptied: its admission withdrawn, or its commit's contents taken back (R167).  A record at step 3 whose route
the map already holds has its route posted again, where R167 alone would withdraw the pending change: DEDUCED (log entry 71). -/
def State.dropRecall (s : State) (i : SlotIx) : State :=
  let k := s.slot i
  let s1 := (s.withdrawAdmission (.arming i)).emptySlot i
  if k.beforeEvent then (k.entries.filter (·.marks)).foldl (fun t e => t.repost e.entry.screen) s1 else s1

/-- The number of the revalidation or arming admission of a slot that is in flight. -/
def State.revalidating (s : State) (i : SlotIx) : Bool := s.admissions.any (·.owner = .revalidation i)

end Sys2Proof.Machine
end

