-- ==== Sys2Proof/Machine/Requests.lean ====
section
/-!
DEFINITION. Desk requests and force commands from intake on (Chapters 1, 6, 7, 8): the request stack, step 1 with its checks
and waits, and the ends that other parties put to a request.
-/

namespace Sys2Proof.Machine

/-! ## Step 1: holds (R16, R17) -/

/-- A record in SUSPENDED(PRIVACY) awaits re-admission (R16, R17). -/
def State.awaitsPrivacy (s : State) (c : Conn) : Bool :=
  c.state = .suspended .privacy && !s.privateToOther c.source c.desk && s.readmissions.any (·.handle = c.handle)

/-- What holds the transfer handle of a desk, if anything does (R4). -/
def State.transferHolds (s : State) (d : Desk) : List Hold :=
  (s.conns.filter fun c => c.handle = transferHandle d).map fun c => .transfer c.head c.replaces

/-- What a request at step 1 finds to hold it (R16, R17): the bring-ups in flight on its screen; the transfer handle, when it
would be a replacement; the record of its head that awaits re-admission.  `head` is absent for a request that names none. -/
def State.stepOneHolds (s : State) (scr : ScreenId) (head : Option HeadId) : List Hold :=
  (((s.connsAt scr).filter (·.inFlight)).map fun c => .bringUp c.head c.auto) ++
    match s.screenConn scr, head with
    | some c, some h =>
      if c.head = h then (if s.awaitsPrivacy c then [.listed c.handle] else []) else s.transferHolds scr.desk
    | _, _ => []

/-- Something that held a request at step 1 holds it still (R16).  A record that awaited re-admission holds it until it has been
taken from the re-admission list, whatever becomes of its source's privacy meanwhile. -/
def State.stillHolds (s : State) (scr : ScreenId) (head : Option HeadId) : Hold → Bool
  | .listed h => s.readmissions.any (·.handle = h)
  | k => (s.stepOneHolds scr head).contains k

/-- A request waiting at step 1 is taken up again: something it waits for holds it no longer (R16). -/
def State.holdOver (s : State) (scr : ScreenId) (head : Option HeadId) (holds : List Hold) : Bool :=
  holds.any fun k => !s.stillHolds scr head k

/-- A connection that has passed step 1, classified by what the screen holds (R15). -/
def State.classify (s : State) (scr : ScreenId) (head : HeadId) (o : Origin) (k : Option Scan) (who : Requester) : State :=
  match s.screenConn scr with
  | none => s.connectFresh scr head o k who
  | some c => if c.head = head then s.connectSame c o k who else s.connectReplacing c head o k who

/-! ## Step 1: checks -/

/-- The screen of a desk that a byte names, below its screen count. -/
def State.screenBelow (s : State) (d : Desk) (b : Byte) : Option ScreenId :=
  match Byte.within 4 b with
  | some k => if s.screenExists ⟨d, k⟩ then some ⟨d, k⟩ else none
  | none => none

/-- The head that two bytes name, below its source's head count. -/
def State.headBelow (s : State) (p : Byte × Byte) : Option HeadId :=
  match headOf p.1 p.2 with
  | some h => if s.headExists h then some h else none
  | none => none

/-- The checks of a CONNECT (R15): the detail of the first that fails, or the screen and head. -/
def State.checkConnect (s : State) (d : Desk) (screen source head : Byte) : Except Detail (ScreenId × HeadId) :=
  match s.screenBelow d screen, s.headBelow (source, head) with
  | some scr, some h =>
    if (s.markedBy scr).isSome then .error .salvoPending
    else if !(s.right d h.source).atLeast .view then .error .noRight
    else if s.privateToOther h.source d then .error .privateInUse
    else .ok (scr, h)
  | _, _ => .error .badArgument

/-- The checks of a DISCONNECT (R24). -/
def State.checkDisconnect (s : State) (d : Desk) (screen : Byte) : Except Detail ScreenId :=
  match s.screenBelow d screen with
  | some scr => if (s.markedBy scr).isSome then .error .salvoPending else .ok scr
  | none => .error .badArgument

/-- The checks of a SCAN (R141). -/
def State.checkScan (s : State) (d : Desk) (screen : Byte) (list : List (Byte × Byte)) :
    Except Detail (ScreenId × HeadId × List HeadId) :=
  match s.screenBelow d screen with
  | none => .error .badArgument
  | some scr =>
    if list.length < 2 ∨ 16 < list.length then .error .badArgument
    else match readAll s.headBelow list with
      | some (h :: rest) =>
        if (s.markedBy scr).isSome then .error .salvoPending
        else if !(h :: rest).all fun x => (s.right d x.source).atLeast .view then .error .noRight
        else if s.privateToOther h.source d then .error .privateInUse
        else .ok (scr, h, h :: rest)
      | _ => .error .badArgument

/-- A scan sub-record as SCAN makes it (R142). -/
def newScan (list : List HeadId) (dwell : Nat) : Scan where
  list := list
  index := 1
  dwell := dwellOf dwell
  timer := .notStarted
  paused := false

/-! ## Taking up requests of the connection group -/

def State.refuseDesk (s : State) (d : Desk) (detail : Detail) : State := s.answerDesk d .refused detail []

/-- CONNECT at step 1 (R15, R16). -/
def State.takeUpConnect (s : State) (d : Desk) (screen source head : Byte) : State :=
  match s.checkConnect d screen source head with
  | .error e => s.refuseDesk d e
  | .ok (scr, h) =>
    match s.stepOneHolds scr (some h) with
    | [] => (s.setPhase d .inFlight).classify scr h .desk none .desk
    | holds => s.setPhase d (.held holds)

/-- SCAN at step 1 (R141, R142). -/
def State.takeUpScan (s : State) (d : Desk) (screen : Byte) (dwell : Nat) (list : List (Byte × Byte)) : State :=
  match s.checkScan d screen list with
  | .error e => s.refuseDesk d e
  | .ok (scr, h, l) =>
    match s.stepOneHolds scr (some h) with
    | [] => (s.setPhase d .inFlight).classify scr h .scan (some (newScan l dwell)) .desk
    | holds => s.setPhase d (.held holds)

/-- DISCONNECT at step 1 (R24): the record is retired, and the answer awaits the house frame event. -/
def State.takeUpDisconnect (s : State) (d : Desk) (screen : Byte) : State :=
  match s.checkDisconnect d screen with
  | .error e => s.refuseDesk d e
  | .ok scr =>
    match s.stepOneHolds scr none with
    | [] => match s.screenConn scr with
      | none => s.answerDesk d .done .noRecord []
      | some c => (s.setPhase d .frame).retire c.handle
    | holds => s.setPhase d (.held holds)

/-! ## RECALL (R166, R188) -/

/-- A preset read for use: a VALID preset whose check value does not match becomes CORRUPT (R188). -/
def Preset.matches : Preset → Bool
  | .valid es check => check = some (checkValue (presetImage es))
  | _ => true

/-- Set a preset; a change of its state sets the store mark (R184). -/
def State.setPreset (s : State) (p : PresetIx) (v : Preset) : State :=
  { s with store := { s.store with presets := s.store.presets.set p v } }.markStore

/-- Read a preset for use (R188). -/
def State.readPreset (s : State) (p : PresetIx) : State :=
  if (s.store.presets[p]).matches then s else s.setPreset p .corrupt

/-- RECALL as it begins to execute (R166). -/
def State.takeUpRecall (s : State) (d : Desk) (preset : Byte) : State :=
  match Byte.within 32 preset with
  | none => s.refuseDesk d .badArgument
  | some p =>
    if s.store.op.isSome then s.refuseDesk d .storeBusy
    else
      let s1 := s.readPreset p
      match s1.store.presets[p] with
      | .corrupt => s1.refuseDesk d .presetCorrupt
      | .blank => s1.refuseDesk d .badArgument
      | .valid es _ =>
        if !es.all (·.screen.desk = d) then s1.refuseDesk d .badArgument
        else match allSlots.find? fun i => (s1.slot i).state = .empty with
          | none => s1.refuseDesk d .wrongState
          | some i =>
            ((s1.setSlot i (Slot.loaded es (.desk d))).setPhase d (.recall i)).startArming i (.desk d)

/-! ## The control group -/

/-- A control request is carried out and answered (R83 to R92); a claim that joins the queue of an idle holder releases it
after the answer (R87, R97). -/
def State.runControl (s : State) (d : Desk) (r : State × List Work × Answer) : State :=
  let a := r.2.2
  let s1 := (State.arbitrate (r.1, r.2.1)).answerDesk d a.outcome a.detail a.data
  if r.1.arrivals = s.arrivals then s1
  else match s1.claimedBy d with
    | some x => s1.idleTest x
    | none => s1

/-! ## The request stack (R127 to R129) -/

/-- The executing request of a desk begins (R129), or takes up step 1 again (R16). -/
def State.beginRequest (s : State) (d : Desk) : State :=
  match (s.stack d).executing with
  | none => s
  | some e =>
    match e.request.body with
    | .connect screen source head => s.takeUpConnect d screen source head
    | .disconnect screen => s.takeUpDisconnect d screen
    | .scan screen dwell list => s.takeUpScan d screen dwell list
    | .recall preset => s.takeUpRecall d preset
    | .take source mode preempt => s.runControl d (s.doTake d source mode preempt)
    | .share source => s.runControl d (s.doShare d source)
    | .release => s.runControl d (s.doRelease d)
    | .withdraw => s.runControl d (s.doWithdraw d)

/-- A desk's executing request is about to begin, or its waiting request is to become executing (R129). -/
def Stack.beginning (k : Stack) : Bool :=
  match k.executing with
  | some e => e.phase = .step1
  | none => k.waiting.isSome

/-- A request that has become executing begins (R129). -/
def State.promote (s : State) (d : Desk) : State :=
  if (s.stack d).beginning then
    (if (s.stack d).executing.isNone then s.setStack d (s.stack d).next else s).beginRequest d
  else s

/-- A room lock covers a request's group (R128, R179). -/
def State.lockedGroup (s : State) (b : RequestBody) : Bool :=
  if b.isConnection then s.lockHas (·.connections) else s.lockHas (·.control)

/-- The intake of a request of the connection or control group (R128, R129). -/
def State.intake (s : State) (d : Desk) (r : Request) : State :=
  let answer (o : ResponseOutcome) (detail : Detail) : State := s.respond d r.number ⟨o, r.body.kind, detail, []⟩
  if s.lockedGroup r.body then answer .refused .roomLocked
  else if s.held d then
    answer .onHold (match s.noticeList d with
      | n :: _ => n.kind.detail
      | [] => .noDetail)
  else
    let s1 := s.promote d
    match s1.stack d with
    | { executing := none, waiting := _ } =>
      (s1.setStack d { executing := some { request := r, phase := .step1 }, waiting := none }).beginRequest d
    | { executing := some e, waiting := none } => s1.setStack d { executing := some e, waiting := some r }
    | { executing := some _, waiting := some _ } => answer .refused .stackFull

/-! ## A request waiting at step 1 is taken up again (R16) -/

/-- The screen a request names, and the head, as far as the bytes name any. -/
def RequestBody.names (b : RequestBody) (d : Desk) : Option ScreenId × Option HeadId :=
  let on (screen : Byte) : Option ScreenId := (Byte.within 4 screen).map fun k => ⟨d, k⟩
  match b with
  | .connect screen source head => (on screen, headOf source head)
  | .disconnect screen => (on screen, none)
  | .scan screen _ ((x, h) :: _) => (on screen, headOf x h)
  | _ => (none, none)

/-- A desk's executing request waits at step 1, and something it waited for has ended. -/
def State.deskWaitOver (s : State) (d : Desk) : Bool :=
  match (s.stack d).executing with
  | some { request := r, phase := .held holds } => match r.body.names d with
    | (some scr, head) => s.holdOver scr head holds
    | (none, _) => true
  | _ => false

/-! ## FORCE_CONNECT and FORCE_DISCONNECT (R33, R34) -/

/-- How far the force command in progress has come. -/
def State.setForcePhase (s : State) (p : Phase) : State :=
  match s.command with
  | some (.forceConnect scr h _) => { s with command := some (.forceConnect scr h p) }
  | some (.forceDisconnect scr _) => { s with command := some (.forceDisconnect scr p) }
  | _ => s

/-- A force on a desk that is DOWN or LOST makes no admission (R33). -/
def State.forceAbsent (s : State) (scr : ScreenId) (head : HeadId) : State :=
  let create (t : State) : State := match t.lowestFree with
    | none => t
    | some h =>
      (t.createConn { newConn h scr head .supervisor none none .force with
        state := .suspended .deskAbsent, step := none, answerTo := none }).answerCommand .done .noDetail
          [(RecordState.suspended .deskAbsent).code]
  match s.screenConn scr with
  | none => create s
  | some c => if c.head = head then s.connectSame c .supervisor none .force else create (s.retire c.handle)

/-- FORCE_CONNECT at step 1 (R33). -/
def State.takeUpForceConnect (s : State) (scr : ScreenId) (head : HeadId) : State :=
  if (s.deskLive scr.desk && !s.screenExists scr) || !s.headExists head then s.answerCommand .refused .badArgument []
  else if (s.markedBy scr).isSome then s.answerCommand .refused .salvoPending []
  else if s.deskLive scr.desk then
    let s1 := s.forceSupersedes scr
    match s1.stepOneHolds scr (some head) with
    | [] => (s1.setForcePhase .inFlight).classify scr head .supervisor none .force
    | holds => s1.setForcePhase (.held holds)
  else (s.setForcePhase .inFlight).forceAbsent scr head

/-- A request that has not passed step 1 concerns a screen: it names the screen, or is a RECALL whose preset has an entry for it
(R135). -/
def State.bodyConcerns (s : State) (d : Desk) (scr : ScreenId) : RequestBody → Bool
  | .recall preset => (Byte.within 32 preset).any fun p => match s.store.presets[p] with
    | .valid es _ => es.any (·.screen = scr)
    | .blank | .corrupt => false
  | b => (b.names d).1 = some scr

/-- The executing request of a desk that a FORCED notice naming a screen concerns (R135): one at step 1 on that screen, or a
RECALL with an entry for it whose commit has not been applied. -/
def State.forcedConcerns (s : State) (d : Desk) (scr : ScreenId) : Bool :=
  match (s.stack d).executing with
  | none => false
  | some e => match e.phase with
    | .step1 | .held _ => s.bodyConcerns d scr e.request.body
    | .recall i => (s.slot i).recallOpen && (s.slot i).entries.any (·.entry.screen = scr)
    | .inFlight | .frame => false

/-- The executing request is ended before its route is applied, without an answer: what it has in flight is abandoned (R32,
R167). -/
def State.abandonExecuting (s : State) (d : Desk) : State :=
  match (s.stack d).executing with
  | none => s
  | some e => match e.phase with
    | .step1 | .held _ | .frame => s
    | .inFlight => match s.requestedConn d with
      | some c => s.abandon c.handle
      | none => s
    | .recall i => if (s.slot i).recallOpen then s.dropRecall i else s

/-- A FORCED notice naming a screen (R34, R135). -/
def State.raiseForced (s : State) (scr : ScreenId) : State :=
  let d := scr.desk
  if !s.deskLive d then s
  else
    let s1 := s.cancelWaiting d .forced
    let s2 := if s1.forcedConcerns d scr then (s1.abandonExecuting d).answerDesk d .cancelled .forced [] else s1
    s2.listNotice d { kind := .forced, source := none, screen := some scr.screen, overflow := false }

/-- FORCE_DISCONNECT at step 1 (R34).  R34 and R82 do not say outright whether the FORCED notice is raised before the retirement is
reported to the Control Arbiter: DESIGN CHOICE, the record is retired first, with the grants that follow, and then the notice is
raised (log entry 73). -/
def State.takeUpForceDisconnect (s : State) (scr : ScreenId) : State :=
  if s.deskLive scr.desk && !s.screenExists scr then s.answerCommand .refused .badArgument []
  else if (s.markedBy scr).isSome then s.answerCommand .refused .salvoPending []
  else
    let s1 := s.forceSupersedes scr
    match s1.stepOneHolds scr none with
    | [] => match s1.screenConn scr with
      | none => (s1.raiseForced scr).answerCommand .done .noRecord []
      | some c => ((s1.setForcePhase .frame).retire c.handle).raiseForced scr
    | holds => s1.setForcePhase (.held holds)

/-- The force command in progress takes up step 1. -/
def State.beginForce (s : State) : State :=
  match s.command with
  | some (.forceConnect scr h _) => s.takeUpForceConnect scr h
  | some (.forceDisconnect scr _) => s.takeUpForceDisconnect scr
  | _ => s

/-- The force command in progress waits at step 1, and something it waited for has ended. -/
def State.forceWaitOver (s : State) : Bool :=
  match s.command with
  | some (.forceConnect scr h (.held holds)) => !s.deskLive scr.desk || s.holdOver scr (some h) holds
  | some (.forceDisconnect scr (.held holds)) => s.holdOver scr none holds
  | _ => false

/-! ## A reduced screen count, and the end of a desk's records (R30) -/

/-- The screen that the executing request of a desk stands on, while it can still be cancelled with it: at step 1, or with a
record in flight. -/
def State.executingScreen (s : State) (d : Desk) : Option ScreenId :=
  match (s.stack d).executing with
  | none => none
  | some e => match e.phase with
    | .step1 | .held _ => (e.request.body.names d).1
    | .inFlight => (s.requestedConn d).map (·.screen)
    | .frame | .recall _ => none

/-- The records of a desk on screens at or beyond a count are retired; the executing request that stands on such a screen, and a
FORCE_CONNECT whose record is among them, end with them, answered CANCELLED with BAD_ARGUMENT (R30, R122, R174).  A force that waits
at step 1 has no record: it takes up step 1 again and fails the first check there (R16, R33, R34).  R30 and R122 give the CANCELLED
answer no place among the frames of the taking: DESIGN CHOICE, it follows all the retirements and the notices that they raise (log
entry 65).  A request that a retirement's consequences have answered already has left the stack, and the waiting request that has
taken its place is not touched (R122). -/
def State.retireBeyond (s : State) (d : Desk) (count : Nat) : State :=
  let gone (scr : ScreenId) : Bool := scr.desk = d && count ≤ scr.screen.val
  let request := (s.executingScreen d).any gone
  let force := s.forcedConn.any fun c => gone c.screen
  let s1 := s.retireAll fun c => gone c.screen
  let s2 := if request ∧ s1.stack d = s.stack d then s1.answerDesk d .cancelled .badArgument [] else s1
  if force then s2.answerCommand .cancelled .badArgument [] else s2

/-- Every record of a desk is retired (R30, R125, R126).  A FORCE_CONNECT that still awaited its frame event on one of them is
answered CANCELLED with DESK_ABSENT (log entry 7). -/
def State.retireDesk (s : State) (d : Desk) : State :=
  let force := s.forcedConn.any (·.desk = d)
  let s1 := s.retireAll fun c => c.desk = d
  if force then s1.answerCommand .cancelled .deskAbsent [] else s1

end Sys2Proof.Machine
end

