-- ==== Sys2Proof/Machine/Settle.lean ====
section
/-!
DEFINITION. The work that a taking leaves standing in the state and carries out before it ends: what an event has made due is
taken up one piece at a time, in a fixed order, until nothing is due (log entry 8); then every dwell timer is brought in line
with the conditions that freeze it (R143).
-/

namespace Sys2Proof.Machine

/-! ## Decisions of admissions (R60, R61) -/

/-- The decision of an admission reaches its asker. -/
def State.decideFor (s : State) (a : Admission) (v : Verdict) (timedOut : Option HeadId) : State :=
  let detail : Detail := if timedOut.isSome then .tierTimeout else .noBandwidth
  match a.owner, v with
  | _, .waiting => s
  | .record h, .granted => s.grantRecord h
  | .record h, .refused _ _ => s.refuseRecord h detail
  | .arming i, .granted => match (s.slot i).arming with
    | some who => s.grantArm i who
    | none => s
  | .arming i, .refused ds xs => match (s.slot i).arming with
    | some who =>
      let es := (s.slot i).entries
      let n := match timedOut with
        | some t => s.timeoutIndex es a.placements t
        | none => overflowIndex es ds xs
      s.armFails i who n detail
    | none => s
  | .revalidation i, .granted => s.grantRevalidation i a.placements
  | .revalidation i, .refused ds xs =>
    let es := (s.slot i).entries
    let n := match timedOut with
      | some t => s.timeoutIndex es a.placements t
      | none => overflowIndex es ds xs
    s.disarm i (some (n, detail))

/-- An admission that waits for nothing more is decided: refused for a timeout (R60, R68), rechecked against the state as it
stands (R60), or computed once more (R61).  An admission left in place though the change on its own placement head was abandoned
(R68), whose record is still ADMITTING, has no outcome in R60: DESIGN CHOICE, it is rechecked as if the change had been
acknowledged (log entry 50). -/
def State.decide (s : State) (a : Admission) : Option State :=
  match a.phase with
  | .failed h => some ((s.decideFor a (.refused [] []) (some h)).endAdmission a.id)
  | .own =>
    if s.issuedOutstanding a.id then none
    else
      let pl := s.activePlacements a.placements
      let v : Verdict := if s.fits [] pl then .granted else .refused (s.overDesks [] pl) (s.overSources [] pl)
      some ((s.decideFor a v none).endAdmission a.id)
  | .others [] =>
    match s.runAdmission a.id a.owner a.placements false with
    | (s1, .waiting) => some s1
    | (s1, v) => some ((s1.decideFor a v none).endAdmission a.id)
  | .others _ => none

/-! ## The pieces of due work, in their order -/

/-- The first result of a list of attempts. -/
def firstDue {α : Type} (f : α → Option State) : List α → Option State
  | [] => none
  | a :: rest =>
    match f a with
    | some s => some s
    | none => firstDue f rest

/-- An admission is to be refused for a change of its own that timed out or was abandoned (R60, R68). -/
def Admission.hasFailed (a : Admission) : Bool :=
  match a.phase with
  | .failed _ => true
  | .own | .others _ => false

/-- The oldest admission that is to be refused for a change of its own is refused. -/
def State.dueRefusal (s : State) : Option State := firstDue s.decide (s.admissions.filter (·.hasFailed))

/-- The admissions that are to be refused for a change of their own are refused, as many as the bound allows. -/
def State.refuseFailed : Nat → State → State
  | 0, s => s
  | n + 1, s =>
    match s.dueRefusal with
    | none => s
    | some s1 => State.refuseFailed n s1

/-- A slot touched by an event of R157 is validated again: of several, the slot of the lowest number first.  R157 and R161 give no
order, which can decide the slot that gets the bandwidth: DESIGN CHOICE (log entry 61). -/
def State.dueSlot (s : State) : Option State :=
  (allSlots.find? fun i => (s.slot i).touched).map s.validateAgain

/-- The oldest admission that can be decided is decided. -/
def State.dueAdmission (s : State) : Option State := firstDue s.decide s.admissions

/-- A request that has followed one that left the stack begins (R129). -/
def State.dueRequest (s : State) : Option State := (allDesks.find? fun d => (s.stack d).beginning).map s.promote

/-- A force, and after it a desk request, takes up step 1 again (R16).  A force supersedes a desk request that has begun on its
screen meanwhile (R33, R34). -/
def State.dueStepOne (s : State) : Option State :=
  if s.forceWaitOver then some s.beginForce else (allDesks.find? s.deskWaitOver).map s.beginRequest

/-- A commit goes on: one that waited for a revalidation begins (R162), one whose records are stable completes (R165). -/
def State.dueCommit (s : State) : Option State :=
  match allSlots.find? fun i =>
    let k := s.slot i
    k.state = .committing ∧ k.stage = some .afterEvent ∧ k.awaiting = [] with
  | some i => some (s.completeCommit i)
  | none =>
    (allSlots.find? fun i => (s.slot i).commitDue && (s.slot i).state = .armed && !s.revalidating i).map s.beginCommit

/-- The first piece of due work (log entry 8).  The refusals of admissions for a change of their own come first: R67 and R68 ask
for them as the timeout or the abandonment is taken (log entry 56). -/
def State.dueWork (s : State) : Option State :=
  s.dueRefusal <|> s.dueSlot <|> s.dueAdmission <|> s.dueRequest <|> s.dueStepOne <|> s.dueCommit <|> s.readmitNext <|> s.resumeNext
    <|> s.walkStep

/-- Due work is carried out until none is left, or the bound is reached (log entry 3). -/
def State.runDue : Nat → State → State
  | 0, s => s
  | n + 1, s =>
    match s.dueWork with
    | none => s
    | some s1 => State.runDue n s1

/-! ## Dwell timers (R143, R148) -/

/-- The conditions that freeze a dwell timer, by their place in R143. -/
def State.freezing (s : State) (c : Conn) (k : Scan) : List Bool :=
  [k.paused, s.lockHas (·.scans), c.state = .suspended .deskAbsent, s.beingReplaced c, c.auto = some .step]

/-- The dwell timer of a record as the conditions of R143 have it.  It leaves NOT_STARTED when the SCAN has been answered, with
the pause flag as the desk's driving has it (R143, R147). -/
def State.scanAsDue (s : State) (c : Conn) (k : Scan) : Scan :=
  let k1 := if k.timer = .notStarted ∧ c.answerTo = none then
      { k with timer := .running (s.inSeconds k.dwell), paused := s.drives c.desk c.source }
    else k
  let frozen := (s.freezing c k1).any id
  match k1.timer with
  | .notStarted => k1
  | .running due => if frozen then { k1 with timer := .frozen (due - s.now) } else k1
  | .frozen left => if frozen then k1 else { k1 with timer := .running (s.now + left) }

/-- A record with its dwell timer as due. -/
def State.scanned (s : State) (c : Conn) : Conn := { c with scan := c.scan.map (s.scanAsDue c) }

/-- The pause flag of a record's scan changes as its timer is brought in line. -/
def State.pauseChanges (s : State) (c : Conn) : Bool :=
  match c.scan with
  | some k => (s.scanAsDue c k).paused ≠ k.paused
  | none => false

/-- Every dwell timer is brought in line with its conditions; a change of a pause flag marks the desk (R147). -/
def State.refreshScans (s : State) : State :=
  let s1 : State := { s with conns := s.conns.map s.scanned }
  s1.markDesks ((s.conns.filter s.pauseChanges).map (·.desk))

/-- The end of a taking: the due work, the LED states of the desks whose target has moved (R115), the dwell timers. -/
def State.settle (s : State) : State := (State.runDue Config.settleFuel s).tellTargets.refreshScans

/-- A meaning: nothing is taken without power; else the effect, then the work it has left. -/
def State.take (s : State) (f : State → State) : Host.Outcome State Fault Refusal :=
  if s.powered then .next (f s).settle else .next s

/-- A meaning that leaves no work: a query. -/
def State.ask (s : State) (f : State → State) : Host.Outcome State Fault Refusal :=
  if s.powered then .next (f s) else .next s

end Sys2Proof.Machine
end

