-- ==== Sys2Proof/Machine/Receiver.lean ====
section
/-!
DEFINITION. The common frame (R192) and its receivers (R193): a receiver takes bytes in turn; a malformed frame is discarded
whole.
-/

namespace Sys2Proof.Machine

/-- The sum of a list of bytes, modulo 256. -/
def byteSum (l : List Byte) : Byte := l.foldl (· + ·) 0

/-- The check byte of a frame (R192). -/
def checkByte (kind : Byte) (payload : List Byte) : Byte := 0 - byteSum (byte payload.length :: kind :: payload)

/-- The bytes of a frame (R192). -/
def frameBytes (kind : Byte) (payload : List Byte) : List Byte :=
  Config.startCode :: byte payload.length :: kind :: (payload ++ [checkByte kind payload])

/-- What a byte makes of a receiver: its next state, and the kind and payload of a frame it accepts (R193). -/
def Receiver.feed (r : Receiver) (b : Byte) : Receiver × Option (Byte × List Byte) :=
  match r with
  | .hunting => if b = Config.startCode then (.header, none) else (.hunting, none)
  | .header => if Config.maxPayload < b.toNat then (.hunting, none) else (.headerKind b.toNat, none)
  | .headerKind n => (.body b [] n, none)
  | .body k p 0 => if b = checkByte k p then (.hunting, some (k, p)) else (.hunting, none)
  | .body k p (n + 1) => (.body k (p ++ [b]) n, none)

/-- A receiver takes bytes in turn; the frames it accepts, in order. -/
def Receiver.feedAll (r : Receiver) : List Byte → Receiver × List (Byte × List Byte)
  | [] => (r, [])
  | b :: rest =>
    let one := r.feed b
    let more := one.1.feedAll rest
    (more.1, one.2.toList ++ more.2)

/-- The receiver of a line. -/
def State.receiver (s : State) : Line → Receiver
  | .supervisory => s.supervisoryReceiver
  | .desk d => s.deskReceivers[d]
  | .source x => s.sourceReceivers[x]

/-- Set the receiver of a line.  On the supervisory line the gap to the next byte of a frame is timed (R193). -/
def State.setReceiver (s : State) (l : Line) (r : Receiver) : State :=
  match l with
  | .supervisory =>
    { s with supervisoryReceiver := r, gapTimer := if r = .hunting then none else some (s.now + Config.interByteGap) }
  | .desk d => { s with deskReceivers := s.deskReceivers.set d r }
  | .source x => { s with sourceReceivers := s.sourceReceivers.set x r }

/-- INTER_BYTE_GAP_EXPIRY (R193): the frame being received on the supervisory line is discarded. -/
def execInterByteGapExpiry (s : State) : Host.Outcome State Fault Refusal :=
  s.ask fun t => match t.gapTimer with
    | some due => (t.reach due).setReceiver .supervisory .hunting
    | none => t

end Sys2Proof.Machine
end

