-- ==== Sys2Proof/Decode.lean ====
section
/-!
DEFINITION. From the bytes of a line to the command they are (R193, R194), and back.  No row of the opcode table has bits, so
that no word of the table spells a command.
-/

namespace Sys2Proof

open Machine

/-- The command that a word of the table spells: none, since spec/opcode_table.json gives no row bits. -/
def decodeTableWord (_nbits _w : Nat) : Option Instr := none

/-- The command of an accepted frame on a source link, by its kind (R194, section 11.2). -/
def dispatchSource (x : Source) (kind : Byte) (payload : List Byte) : Instr :=
  if kind = Kind.descriptor then .sourceDescriptor x payload
  else if kind = Kind.heartbeat then .sourceHeartbeat x payload
  else if kind = Kind.headFormat then .headFormat x payload
  else if kind = Kind.tierAck then .tierAck x payload
  else if kind = Kind.ledState then .ledState x payload
  else .sourceUnknownKind x kind payload

/-- The command of an accepted frame on a desk link, by its kind (R194, section 11.2). -/
def dispatchDesk (d : Desk) (kind : Byte) (payload : List Byte) : Instr :=
  if kind = Kind.descriptor then .deskDescriptor d payload
  else if kind = Kind.heartbeat then .deskHeartbeat d payload
  else if kind = Kind.locked then .locked d payload
  else if kind = Kind.unlocked then .unlocked d payload
  else if kind = Kind.keys then .keys d payload
  else if kind = Kind.pointer then .pointer d payload
  else if kind = Kind.connect then .connect d payload
  else if kind = Kind.disconnect then .disconnect d payload
  else if kind = Kind.scan then .scan d payload
  else if kind = Kind.recallPreset then .recall d payload
  else if kind = Kind.take then .take d payload
  else if kind = Kind.share then .share d payload
  else if kind = Kind.release then .release d payload
  else if kind = Kind.withdraw then .withdraw d payload
  else if kind = Kind.noticeAck then .noticeAck d payload
  else if kind = Kind.queryScreen then .queryScreen d payload
  else if kind = Kind.querySource then .querySource d payload
  else if kind = Kind.queryDesk then .queryDesk d payload
  else .deskUnknownKind d kind payload

/-- The command of an accepted frame on the supervisory line with no command in progress, by its kind (R194, section
11.2). -/
def dispatchSupervisory (kind : Byte) (payload : List Byte) : Instr :=
  if kind = Kind.ping then .ping payload
  else if kind = Kind.version then .version payload
  else if kind = Kind.setDesk then .setDesk payload
  else if kind = Kind.setSource then .setSource payload
  else if kind = Kind.setRights then .setRights payload
  else if kind = Kind.setRoom then .setRoom payload
  else if kind = Kind.forceConnect then .forceConnect payload
  else if kind = Kind.forceDisconnect then .forceDisconnect payload
  else if kind = Kind.forceRelease then .forceRelease payload
  else if kind = Kind.portReset then .portReset payload
  else if kind = Kind.stageLoad then .stageLoad payload
  else if kind = Kind.stageClear then .stageClear payload
  else if kind = Kind.arm then .arm payload
  else if kind = Kind.commit then .commit payload
  else if kind = Kind.disarm then .disarm payload
  else if kind = Kind.presetToStage then .presetToStage payload
  else if kind = Kind.stageToPreset then .stageToPreset payload
  else if kind = Kind.saveSettings then .saveSettings payload
  else if kind = Kind.presetErase then .presetErase payload
  else if kind = Kind.presetBlank then .presetBlank payload
  else if kind = Kind.storeCheck then .storeCheck payload
  else if kind = Kind.listConnections then .listConnections payload
  else if kind = Kind.deskStatus then .deskStatus payload
  else if kind = Kind.sourceStatus then .sourceStatus payload
  else if kind = Kind.budget then .budget payload
  else if kind = Kind.changes then .changes payload
  else if kind = Kind.lock then .lock payload
  else if kind = Kind.unlock then .unlock payload
  else if kind = Kind.restart then .restart payload
  else .supervisoryUnknownKind kind payload

/-- The command of an accepted frame (R168, R194): on the supervisory line, any frame is BUSY while a command is in
progress. -/
def dispatch (line : Line) (inProgress : Bool) (kind : Byte) (payload : List Byte) : Instr :=
  match line with
  | .source x => dispatchSource x kind payload
  | .desk d => dispatchDesk d kind payload
  | .supervisory => if inProgress then .busy kind payload else dispatchSupervisory kind payload

/-- The command of the bytes of one frame, taken by a receiver that is HUNTING (R193): the frame's, when exactly one is
accepted, else MALFORMED_FRAME. -/
def decodeFrame (line : Line) (inProgress : Bool) (bytes : List Byte) : Instr :=
  match Receiver.feedAll .hunting bytes with
  | (.hunting, [(kind, payload)]) => dispatch line inProgress kind payload
  | _ => .malformedFrame line bytes false

/-- The line, kind and payload of a command that is a frame (section 11.2); none for an event, and for MALFORMED_FRAME. -/
def Instr.frame? : Instr → Option (Line × Byte × List Byte)
  | .powerUp => none
  | .malformedFrame _ _ _ => none
  | .interByteGapExpiry => none
  | .sourceDescriptor x p => some (.source x, Kind.descriptor, p)
  | .sourceHeartbeat x p => some (.source x, Kind.heartbeat, p)
  | .headFormat x p => some (.source x, Kind.headFormat, p)
  | .tierAck x p => some (.source x, Kind.tierAck, p)
  | .ledState x p => some (.source x, Kind.ledState, p)
  | .sourceUnknownKind x k p => some (.source x, k, p)
  | .sourceInitialTimerExpiry _ => none
  | .sourceSilenceTimerExpiry _ => none
  | .sourceLinkLoss _ => none
  | .settleTimerExpiry _ _ => none
  | .tierChangeTimerExpiry _ _ => none
  | .transmitterComplete _ => none
  | .deskDescriptor d p => some (.desk d, Kind.descriptor, p)
  | .deskHeartbeat d p => some (.desk d, Kind.heartbeat, p)
  | .locked d p => some (.desk d, Kind.locked, p)
  | .unlocked d p => some (.desk d, Kind.unlocked, p)
  | .keys d p => some (.desk d, Kind.keys, p)
  | .pointer d p => some (.desk d, Kind.pointer, p)
  | .connect d p => some (.desk d, Kind.connect, p)
  | .disconnect d p => some (.desk d, Kind.disconnect, p)
  | .scan d p => some (.desk d, Kind.scan, p)
  | .recall d p => some (.desk d, Kind.recallPreset, p)
  | .take d p => some (.desk d, Kind.take, p)
  | .share d p => some (.desk d, Kind.share, p)
  | .release d p => some (.desk d, Kind.release, p)
  | .withdraw d p => some (.desk d, Kind.withdraw, p)
  | .noticeAck d p => some (.desk d, Kind.noticeAck, p)
  | .queryScreen d p => some (.desk d, Kind.queryScreen, p)
  | .querySource d p => some (.desk d, Kind.querySource, p)
  | .queryDesk d p => some (.desk d, Kind.queryDesk, p)
  | .deskUnknownKind d k p => some (.desk d, k, p)
  | .deskInitialTimerExpiry _ => none
  | .deskSilenceTimerExpiry _ => none
  | .deskLinkLoss _ => none
  | .graceTimerExpiry _ => none
  | .lockTimerExpiry _ _ => none
  | .houseFrameEvent => none
  | .controlTimeoutReached _ => none
  | .restorationDelayExpiry => none
  | .dwellExpiry _ _ => none
  | .armHoldTimerExpiry _ => none
  | .ping p => some (.supervisory, Kind.ping, p)
  | .version p => some (.supervisory, Kind.version, p)
  | .busy k p => some (.supervisory, k, p)
  | .supervisoryUnknownKind k p => some (.supervisory, k, p)
  | .setDesk p => some (.supervisory, Kind.setDesk, p)
  | .setRights p => some (.supervisory, Kind.setRights, p)
  | .setSource p => some (.supervisory, Kind.setSource, p)
  | .setRoom p => some (.supervisory, Kind.setRoom, p)
  | .forceConnect p => some (.supervisory, Kind.forceConnect, p)
  | .forceDisconnect p => some (.supervisory, Kind.forceDisconnect, p)
  | .forceRelease p => some (.supervisory, Kind.forceRelease, p)
  | .portReset p => some (.supervisory, Kind.portReset, p)
  | .stageLoad p => some (.supervisory, Kind.stageLoad, p)
  | .stageClear p => some (.supervisory, Kind.stageClear, p)
  | .arm p => some (.supervisory, Kind.arm, p)
  | .commit p => some (.supervisory, Kind.commit, p)
  | .disarm p => some (.supervisory, Kind.disarm, p)
  | .presetToStage p => some (.supervisory, Kind.presetToStage, p)
  | .stageToPreset p => some (.supervisory, Kind.stageToPreset, p)
  | .presetWriteComplete _ => none
  | .saveSettings p => some (.supervisory, Kind.saveSettings, p)
  | .settingsSaveComplete _ => none
  | .presetErase p => some (.supervisory, Kind.presetErase, p)
  | .presetEraseComplete => none
  | .presetBlank p => some (.supervisory, Kind.presetBlank, p)
  | .storeCheck p => some (.supervisory, Kind.storeCheck, p)
  | .listConnections p => some (.supervisory, Kind.listConnections, p)
  | .deskStatus p => some (.supervisory, Kind.deskStatus, p)
  | .sourceStatus p => some (.supervisory, Kind.sourceStatus, p)
  | .budget p => some (.supervisory, Kind.budget, p)
  | .changes p => some (.supervisory, Kind.changes, p)
  | .lock p => some (.supervisory, Kind.lock, p)
  | .unlock p => some (.supervisory, Kind.unlock, p)
  | .durationTimerExpiry => none
  | .restart p => some (.supervisory, Kind.restart, p)
  | .powerFail => none

/-- The bytes of a command that is a frame, on its line (R192). -/
def encodeFrame (i : Instr) : Option (Line × List Byte) :=
  i.frame?.map fun f => (f.1, frameBytes f.2.1 f.2.2)

end Sys2Proof
end

