-- ==== Sys2Proof/Machine/Fabric.lean ====
section
/-!
DEFINITION. The house frame event with the applied-change report (R9, R10, R22, R164), and the lock timers' expiry (R14).
-/

namespace Sys2Proof.Machine

/-! ## Pieces of the report -/

/-- The contents that a frame event applies, in position order (R9). -/
def State.toApply (s : State) : List (ScreenId × Content) :=
  allScreens.filterMap fun scr => (s.position scr).pending.map fun c => (scr, c)

/-- Every pending change is written into the map, and the list is emptied (R9). -/
def State.applyPending (s : State) : State :=
  { s with positions := s.positions.map fun p => match p.pending with
      | some c => { p with shown := c, pending := none }
      | none => p }

/-- The replacement records that complete at this event: those whose posted content was applied (R22). -/
def State.completing (s : State) (applied : List (ScreenId × Content)) : List Conn :=
  s.conns.filter fun c => c.replaces.isSome && c.posted && !s.commitHolds c.screen && applied.any (·.1 = c.screen)

/-- A record leaves the table without a report to the Arbiter yet. -/
def State.takeOut (s : State) (h : Handle) : State :=
  match s.conn? h with
  | none => s
  | some c =>
    let s1 := s.withdrawAdmission (.record h)
    let s2 := if c.replaces.isNone then s1.stopLockTimer c.screen else s1
    s2.accounted fun t => t.removeConn h

/-- A record moves to another handle, and every list that names it follows (R4). -/
def State.rename (s : State) (old new : Handle) : State :=
  let swap (h : Handle) : Handle := if h = old then new else h
  match s.conn? old with
  | none => s
  | some c =>
    { s with
      conns := putConn { c with handle := new } (s.conns.filter (·.handle ≠ old))
      readmissions := s.readmissions.map fun r => { r with handle := swap r.handle }
      resumption := { s.resumption with
        list := if s.resumption.list.contains old then
            insertHandle new (s.resumption.list.filter (· ≠ old)) else s.resumption.list }
      admissions := s.admissions.map fun a =>
        { a with owner := if a.owner = .record old then .record new else a.owner }
      slots := s.slots.map fun k => { k with awaiting := k.awaiting.map swap } }

/-- The lowest free resident handle is given to a completing replacement, which loses its replaces field (R4, R22). -/
def State.settleHandle (s : State) (h : Handle) : State :=
  match s.conn? h, s.lowestFree with
  | some c, some n => (s.setConn { c with replaces := none, posted := false }).rename h n
  | _, _ => s

/-! ## The commit's frame event (R164) -/

/-- The entries of commits whose event this is, with the slot and its owner, in screen order. -/
def State.committed (s : State) : List (SlotIx × SlotEntry) :=
  allScreens.flatMap fun scr => allSlots.flatMap fun i =>
    if (s.slot i).beforeEvent then
      ((s.slot i).entries.filter fun e => e.marks && e.entry.screen = scr).map fun e => (i, e)
    else []

/-- A requested bring-up whose own route is among the contents applied at this event is at step 4 (R32, R164).  A route that the
map shows from an earlier event does not bring it there. -/
def State.routeApplied (s : State) (applied : List (ScreenId × Content)) (scr : ScreenId) : State :=
  match (s.connsAt scr).find? fun c => c.answerTo.isSome && c.replaces.isNone && c.step = some .switch with
  | some c => if applied.contains (scr, .route c.head) then s.setConn { c with step := some .lock } else s
  | none => s

/-- The desk request or force whose bring-up is in flight on a committed screen is superseded (R164, R174). -/
def State.supersedeAll (s : State) (applied : List (ScreenId × Content)) (scr : ScreenId) : State :=
  let s1 := (s.routeApplied applied scr).supersede scr
  match (s1.connsAt scr).find? (·.answerTo = some .force) with
  | none => s1
  | some c => (s1.abandon c.handle).answerCommand .cancelled .superseded []

/-- The entry names the head of the screen's record, and that record is LIVE or SWITCHING: it is adopted (R164). -/
def SlotEntry.adopts (e : SlotEntry) (c : Conn) : Bool :=
  e.entry.target = .head c.head && (c.state = .live || c.state = .switching)

/-- A slot counts a record of its commit that is still to become stable (R165). -/
def State.await (s : State) (i : SlotIx) (h : Handle) : State :=
  s.setSlot i { s.slot i with awaiting := (s.slot i).awaiting ++ [h] }

/-- The record of a committed screen is adopted or taken out; with it the desk and source of one taken out (R164).  A bring-up
that is superseded and discarded here is reported to the Control Arbiter at once, before the commit's records are created: R164
and R82 do not name the moment (log entry 52). -/
def State.commitRecord (s : State) (applied : List (ScreenId × Content)) (i : SlotIx) (e : SlotEntry) :
    State × List (Desk × Source) :=
  let s1 := s.supersedeAll applied e.entry.screen
  match s1.screenConn e.entry.screen with
  | none => (s1, [])
  | some c =>
    if e.adopts c then
      let s2 := s1.setConn { c with origin := .salvo, scan := none }
      (if c.state = .switching then s2.await i c.handle else s2, [])
    else (s1.takeOut c.handle, [(c.desk, c.source)])

/-- The first state of a record that a commit creates (R164). -/
def State.createdState (s : State) (e : SlotEntry) (h : HeadId) : RecordState :=
  if !s.deskLive e.entry.screen.desk then .suspended .deskAbsent
  else if s.privateToOther h.source e.entry.screen.desk then .suspended .privacy
  else if !s.headActive h then .waiting
  else if e.charged then .switching
  else .waiting

/-- A record of a commit (R164). -/
def salvoConn (n : Handle) (scr : ScreenId) (h : HeadId) (st : RecordState) : Conn where
  handle := n
  screen := scr
  head := h
  state := st
  reservation := 0
  origin := .salvo
  step := if st = .switching then some .lock else none
  scan := none
  replaces := none
  answerTo := none
  auto := if st = .switching then some .commit else none
  posted := false
  prior := none

/-- The record of an entry that was not adopted is created (R164). -/
def State.createFor (s : State) (i : SlotIx) (e : SlotEntry) : State :=
  match e.entry.target, s.screenConn e.entry.screen, s.lowestFree with
  | .head h, none, some n =>
    let scr := e.entry.screen
    let st := s.createdState e h
    let s1 := s.accounted fun t => t.createConn (salvoConn n scr h st)
    match st with
    | .switching => (s1.await i n).startLockTimer scr
    | .suspended .privacy => s1.raiseNotice scr.desk .privacy (some h.source) none
    | .waiting => if s1.headActive h then { s1 with readmissions := s1.readmissions ++ [⟨n, .commit⟩] } else s1
    | _ => s1
  | _, _, _ => s

/-- The commit passes its event: its entries stop being charged, and the contents due for its records are posted where they
differ from what was applied (R164).  R164 says so of created records, and is silent on an adopted record whose route was not applied,
its entry being uncharged: DESIGN CHOICE, its route is posted at the event too (log entry 66). -/
def State.commitApplied (s : State) (i : SlotIx) : State :=
  let s1 := s.accounted fun t => t.setSlot i { t.slot i with
    stage := some .afterEvent, entries := (t.slot i).entries.map SlotEntry.uncharge }
  ((s1.slot i).entries.filter (·.marks)).foldl (fun t e => match t.screenConn e.entry.screen with
    | some c => t.postFor c.handle
    | none => t) s1

/-- A CHANGED notice for a screen whose record was taken out or created, unless its desk owns the slot (R164, R167). -/
def State.noteSalvo (s : State) (i : SlotIx) (scr : ScreenId) : State :=
  if (s.slot i).owner = some (.desk scr.desk) then s else s.raiseNotice scr.desk .changed none (some scr.screen)

/-! ## The event -/

/-- The lock timer of a screen where a route was applied and whose record is SWITCHING (R10, R11). -/
def State.routeLock (s : State) (a : ScreenId × Content) : State :=
  match a.2, s.screenConn a.1 with
  | .route _, some c =>
    if c.state = .switching then
      let s1 := if c.step = some .switch then s.setConn { c with step := some .lock } else s
      s1.startLockTimer a.1
    else s
  | _, _ => s

/-- The state that a card stands for, for a replacement that is answered while a re-admission is deciding it anew (log entry
9). -/
def Content.state : Content → RecordState
  | .route _ => .switching
  | .card .bandwidth => .suspended .budget
  | .card .privacy => .suspended .privacy
  | .card .blank => .suspended .deskAbsent
  | .card .fault => .fault
  | .card .noSignal | .card .outOfRange => .waiting

/-- The answer of a replacement that completes into a card, and the CHANGED notice of one that a force made (R22, R33). -/
def State.answerReplacement (s : State) (scr : ScreenId) (applied : Content) : State :=
  match s.screenConn scr with
  | none => s
  | some c =>
    let s1 := if c.answerTo = some .force then s.raiseNotice c.desk .changed none (some scr.screen) else s
    match applied with
    | .route _ => s1
    | .card _ =>
      let st := if c.state.stable then c.state else applied.state
      (s1.setConn { c with answerTo := none }).answerDone c st

/-- The answers of DISCONNECT and FORCE_DISCONNECT that awaited this event (R24, R34). -/
def State.answerDisconnects (s : State) (desks : List Desk) (force : Bool) : State :=
  let s1 := desks.foldl (fun t d => t.answerDesk d .done .noDetail []) s
  if force then s1.answerCommand .done .noDetail [] else s1

/-- The desks whose DISCONNECT awaits the frame event (R24). -/
def State.awaitingFrame (s : State) : List Desk :=
  allDesks.filter fun d => match (s.stack d).executing with
    | some e => e.phase = .frame
    | none => false

/-- The FORCE_DISCONNECT in progress awaits the frame event (R34). -/
def State.forceAwaitsFrame (s : State) : Bool :=
  match s.command with
  | some (.forceDisconnect _ .frame) => true
  | _ => false

/-- The house frame event (R9, R10): the pending changes are applied; old records are taken out; handles are given and
records created; lock timers start; answers are sent.  R164 gives the CHANGED notices of a commit no order: DESIGN CHOICE, the
screens whose record was retired come first, then those where one was only created (log entry 46); and all of them after the
PRIVACY notices of the records created in SUSPENDED(PRIVACY) (log entry 59).  R10 and R82 give the reports
of the retirements to the Control Arbiter no order: DESIGN CHOICE, those of completing replacements come first, by the
replacement's handle, then those of commits, by screen (log entry 51). -/
def State.frameEvent (s : State) : State :=
  let applied := s.toApply
  let done := s.completing applied
  let commits := s.committed
  let slots := allSlots.filter fun i => (s.slot i).beforeEvent
  let desks := s.awaitingFrame
  let force := s.forceAwaitsFrame
  let s1 := { s with frameRate := s.room.houseRate }.applyPending
  -- R10, 1: retirements
  let olds := done.filterMap fun r => (s1.conns.find? fun c => r.replaces = some c.handle && c.screen = r.screen)
  let s2 := olds.foldl (fun t c => t.takeOut c.handle) s1
  let outs := commits.foldl (fun (r : State × List (Desk × Source) × List (SlotIx × ScreenId)) ie =>
    let o := r.1.commitRecord applied ie.1 ie.2
    (o.1, r.2.1 ++ o.2, if o.2.isEmpty then r.2.2 else r.2.2 ++ [(ie.1, ie.2.entry.screen)])) (s2, [], [])
  -- R10, 2: handles, in screen order
  let s4 := allScreens.foldl (fun t scr =>
    let u := match done.find? (·.screen = scr) with
      | some r => t.settleHandle r.handle
      | none => t
    match commits.find? (·.2.entry.screen = scr) with
    | some ie => u.createFor ie.1 ie.2
    | none => u) outs.1
  let created := commits.filter fun ie => (outs.1.screenConn ie.2.entry.screen).isNone
    && (s4.screenConn ie.2.entry.screen).isSome
  -- R10, 3: lock timers
  let s5 := applied.foldl State.routeLock s4
  let s6 := slots.foldl State.commitApplied s5
  let changed := dedup (outs.2.2 ++ created.map fun ie => (ie.1, ie.2.entry.screen))
  let s7 := changed.foldl (fun t p => t.noteSalvo p.1 p.2) s6
  let s8 := (olds.map (fun c => (c.desk, c.source)) ++ outs.2.1).foldl (fun t p => t.viewReport p.1 p.2) s7
  -- R10, 4: answers
  let s9 := done.foldl (fun t r => match applied.find? (·.1 = r.screen) with
    | some a => t.answerReplacement r.screen a.2
    | none => t) s8
  s9.answerDisconnects desks force

/-- HOUSE_FRAME_EVENT (R9, R10). -/
def execHouseFrameEvent (s : State) : Host.Outcome State Fault Refusal := s.take State.frameEvent

/-- The lock timer of a screen expires, if it runs (R14). -/
def State.lockExpiry (s : State) (scr : ScreenId) : State :=
  match (s.position scr).lockTimer with
  | none => s
  | some due =>
    let s1 := (s.reach due).stopLockTimer scr
    match s1.screenConn scr with
    | some c => if c.state = .switching then s1.lockFails c.handle else s1
    | none => s1

/-- LOCK_TIMER_EXPIRY (R14). -/
def execLockTimerExpiry (d : Desk) (k : ScreenIx) (s : State) : Host.Outcome State Fault Refusal :=
  s.take fun t => t.lockExpiry ⟨d, k⟩

/-! ## Lock reports (R12, R13) -/

/-- A LOCKED report (R12). -/
def State.lockReport (s : State) (scr : ScreenId) : State :=
  if !s.screenExists scr || (s.position scr).lockTimer.isNone then s
  else match s.screenConn scr with
    | some c => if c.state = .switching then s.enter c.handle .live else s
    | none => s

/-- An UNLOCKED report (R13). -/
def State.unlockReport (s : State) (scr : ScreenId) : State :=
  if !s.screenExists scr then s
  else match s.screenConn scr with
    | some c =>
      if c.state = .live then
        ((s.setConn { c with state := .switching, step := none }).startLockTimer scr).postFor c.handle
      else s
    | none => s

end Sys2Proof.Machine
end

