-- ==== Sys2Proof/Machine/DeskLine.lean ====
section
/-!
DEFINITION. The desk links (Chapter 6): their report frames, timers and loss, grace and return, and PORT_RESET of a desk.
-/

namespace Sys2Proof.Machine

/-! ## Valid frames (R119, R120) -/

/-- A receiver of a desk link goes back to HUNTING: a frame has ended (R193). -/
def State.deskFrameEnds (s : State) (d : Desk) : State :=
  { s with deskReceivers := s.deskReceivers.set d .hunting }

/-- A valid frame on a desk link: it counts as a frame since the descriptor in INITIAL, and restarts the silence timer in UP
(R119, R120). -/
def State.deskFrame (s : State) (d : Desk) : State :=
  let l := s.deskLink d
  match l.link with
  | .down | .lost => s
  | .initial => s.setDeskLink d { l with frameSince := true }
  | .up => s.setDeskLink d { l with silenceTimer := some (s.inSeconds (s.deskSettings d).linkTimeout) }

/-- An accepted frame other than DESCRIPTOR: discarded on a DOWN or LOST link, else a valid frame with its effect (R118 to
R120). -/
def State.onDesk (s : State) (d : Desk) (f : State → State) : State :=
  let s1 := s.deskFrameEnds d
  if s1.deskLive d then f (s1.deskFrame d) else s1

/-! ## DESCRIPTOR (R118, R122) -/

/-- A DESCRIPTOR brings a DOWN or LOST desk to INITIAL; its records beyond the count are retired, and the others listed for
re-admission; then the Layout Stager takes the entries beyond the count out of their commits (R118, R30, R163). -/
def State.deskReturns (s : State) (d : Desk) (n : Nat) : State :=
  let s1 := s.changeDeskLink d {
    link := .initial, screenCount := n, frameSince := false,
    initialTimer := some (s.now + Config.initialPeriod), silenceTimer := none, graceTimer := none }
  let s2 := (s1.retireBeyond d n).listReadmit .deskReturn fun c => c.desk = d && c.state = .suspended .deskAbsent
  s2.stagerScreens d n

/-- A DESCRIPTOR on a live desk link with a new screen count (R122). -/
def State.changeScreenCount (s : State) (d : Desk) (n : Nat) : State :=
  let old := (s.deskLink d).screenCount
  let s1 := s.changeDeskLink d { s.deskLink d with screenCount := n }
  if n < old then (s1.retireBeyond d n).stagerScreens d n else s1

/-- A desk DESCRIPTOR (R118, R122, R194); discarded while the start-up after a RESTART runs (R182). -/
def State.takeDeskDescriptor (s : State) (d : Desk) (payload : List Byte) : State :=
  let s1 := s.deskFrameEnds d
  match payload with
  | [n] =>
    if s1.starting || (n.toNat < 1 ∨ 4 < n.toNat) then s1
    else if s1.deskLive d then
      let s2 := s1.deskFrame d
      if n.toNat = (s2.deskLink d).screenCount then s2 else s2.changeScreenCount d n.toNat
    else s1.deskReturns d n.toNat
  | _ => s1.deskFrame d

/-- DESK_DESCRIPTOR (R118). -/
def execDeskDescriptor (d : Desk) (payload : List Byte) (s : State) : Host.Outcome State Fault Refusal :=
  s.take fun t => t.takeDeskDescriptor d payload

/-- DESK_HEARTBEAT (R120): nothing beyond the timers, whatever its length (R194). -/
def execDeskHeartbeat (d : Desk) (_payload : List Byte) (s : State) : Host.Outcome State Fault Refusal :=
  s.take fun t => t.onDesk d id

/-! ## Reports (R123) -/

/-- LOCKED (R12). -/
def execLocked (d : Desk) (payload : List Byte) (s : State) : Host.Outcome State Fault Refusal :=
  s.take fun t => t.onDesk d fun u =>
    match payload with
    | [b] => match Byte.within 4 b with
      | some k => u.lockReport ⟨d, k⟩
      | none => u
    | _ => u

/-- UNLOCKED (R13). -/
def execUnlocked (d : Desk) (payload : List Byte) (s : State) : Host.Outcome State Fault Refusal :=
  s.take fun t => t.onDesk d fun u =>
    match payload with
    | [b] => match Byte.within 4 b with
      | some k => u.unlockReport ⟨d, k⟩
      | none => u
    | _ => u

/-- The working form of a KEYS report: a code that appears twice taken once, and the code 0 not taken (R105).  R105 does not say
which place such a code keeps in the list: DESIGN CHOICE, the first (log entry 53). -/
def keysBody (modifiers : Byte) (codes : List Byte) : InputBody := .keys modifiers (dedup (codes.filter (· ≠ 0)))

/-- KEYS (R105). -/
def execKeys (d : Desk) (payload : List Byte) (s : State) : Host.Outcome State Fault Refusal :=
  s.take fun t => t.onDesk d fun u =>
    match payload with
    | [m, a, b, c, e, f, g] => u.takeReport d (keysBody m [a, b, c, e, f, g])
    | _ => u

/-- The working form of a POINTER report: movements and wheel saturated (R105). -/
def pointerBody (dx dy wheel : Int) (buttons : BitVec 5) : InputBody :=
  .pointer (saturate Config.moveLimit dx) (saturate Config.moveLimit dy) (saturate Config.wheelLimit wheel) buttons

/-- POINTER (R105). -/
def execPointer (d : Desk) (payload : List Byte) (s : State) : Host.Outcome State Fault Refusal :=
  s.take fun t => t.onDesk d fun u =>
    match payload with
    | [x0, x1, y0, y1, w, b] => u.takeReport d (pointerBody (int16 x0 x1) (int16 y0 y1) w.toInt (b.truncate 5))
    | _ => u

/-- DESK_UNKNOWN_KIND (R194): answered NAK, with the first payload byte as request number, or 0. -/
def execDeskUnknownKind (d : Desk) (kind : Byte) (payload : List Byte) (s : State) : Host.Outcome State Fault Refusal :=
  s.take fun t => t.onDesk d fun u => u.respond d (payload.headD 0) ⟨.nak, kind, .unknownKind, []⟩

/-! ## Loss, grace and return (R124 to R126) -/

/-- Steps 1 to 5 of R124, the link state being set already: requests abandoned, notices emptied, relations ended, records
suspended, the Stager told. -/
def State.deskLeaves (s : State) (d : Desk) : State :=
  let s1 := (s.abandonExecuting d).setStack d { executing := none, waiting := none }
  let s2 := s1.setNotices d []
  let s3 := s2.endDeskRelations d
  let s4 := ((s3.conns.filter (·.desk = d)).map (·.handle)).foldl
    (fun t h => (t.enter h (.suspended .deskAbsent)).unlistReadmit h) s3
  s4.stagerDeskLost d

/-- The desk becomes DOWN, or stays so, and every record of it is retired (R125). -/
def State.deskDown (s : State) (d : Desk) : State :=
  let s1 := s.changeDeskLink d { s.deskLink d with link := .down, graceTimer := none }
  let s2 := s1.retireDesk d
  (s2.endDeskRelations d).stagerDeskDown d

/-- The link state LOST with its timers as R124 leaves them. -/
def State.lostLink (s : State) (d : Desk) : State :=
  s.changeDeskLink d { s.deskLink d with
    link := .lost, initialTimer := none, silenceTimer := none, frameSince := false }

/-- The desk enters LOST (R124); a grace period of 0 makes the grace timer expire as it starts (R125). -/
def State.deskLost (s : State) (d : Desk) : State :=
  let s1 := (s.lostLink d).deskLeaves d
  let grace := (s1.deskSettings d).grace
  if grace = 0 then s1.deskDown d
  else s1.setDeskLink d { s1.deskLink d with graceTimer := some (s1.inSeconds grace) }

/-- The initial timer expires (R119). -/
def State.deskInitialExpiry (s : State) (d : Desk) : State :=
  let l := s.deskLink d
  match l.link, l.initialTimer with
  | .initial, some due =>
    let s1 := s.reach due
    if l.frameSince then
      s1.changeDeskLink d { l with
        link := .up, initialTimer := none, silenceTimer := some (s1.inSeconds (s1.deskSettings d).linkTimeout) }
    else s1.deskLost d
  | _, _ => s

/-- DESK_INITIAL_TIMER_EXPIRY (R119). -/
def execDeskInitialTimerExpiry (d : Desk) (s : State) : Host.Outcome State Fault Refusal :=
  s.take fun t => t.deskInitialExpiry d

/-- The silence timer expires (R120). -/
def State.deskSilenceExpiry (s : State) (d : Desk) : State :=
  let l := s.deskLink d
  match l.link, l.silenceTimer with
  | .up, some due => (s.reach due).deskLost d
  | _, _ => s

/-- DESK_SILENCE_TIMER_EXPIRY (R120). -/
def execDeskSilenceTimerExpiry (d : Desk) (s : State) : Host.Outcome State Fault Refusal :=
  s.take fun t => t.deskSilenceExpiry d

/-- DESK_LINK_LOSS (R121): also the end of a frame being received (R193). -/
def execDeskLinkLoss (d : Desk) (s : State) : Host.Outcome State Fault Refusal :=
  s.take fun t =>
    let u := t.deskFrameEnds d
    if u.deskLive d then u.deskLost d else u

/-- The grace timer expires (R125). -/
def State.graceExpiry (s : State) (d : Desk) : State :=
  match (s.deskLink d).graceTimer with
  | some due => (s.reach due).deskDown d
  | none => s

/-- GRACE_TIMER_EXPIRY (R125). -/
def execGraceTimerExpiry (d : Desk) (s : State) : Host.Outcome State Fault Refusal :=
  s.take fun t => t.graceExpiry d

/-- PORT_RESET of a desk (R126): from INITIAL or UP the steps of R124 come first; the desk is DOWN, its records are retired, its
screen count is 4 again, and it is marked. -/
def State.resetDesk (s : State) (d : Desk) : State :=
  let s1 := if s.deskLive d then (s.lostLink d).deskLeaves d else s
  let s2 := s1.deskDown d
  (s2.changeDeskLink d { s2.deskLink d with screenCount := 4 }).markDesk d

end Sys2Proof.Machine
end

