-- ==== Sys2Proof/Machine/Reports.lean ====
section
/-!
DEFINITION. The data of the queries (R137 to R139, R177) as the bytes of a response (R199).  Where R199 leaves the form of an
item open, log entry 10 gives the model's.  R199 does not say which absent items of several numbers are optional groups and which are
absent fields, 255 in each byte: DESIGN CHOICE, an item is the one or the other as log entry 10 lists it.
-/

namespace Sys2Proof.Machine

/-! ## Pieces -/

/-- An absent field of one byte (R199). -/
def absentByte : Byte := 255

/-- A field of one byte that may be absent (R199). -/
def optByte : Option Byte → Byte
  | some b => b
  | none => absentByte

/-- A field of two bytes that may be absent (R199). -/
def opt16 : Option Nat → List Byte
  | some n => le16 n
  | none => [absentByte, absentByte]

/-- An optional group of fields, with its presence byte (R199). -/
def optGroup : Option (List Byte) → List Byte
  | some l => 1 :: l
  | none => [0]

/-- A list, with its entry count (R199). -/
def countedList {α : Type} (f : α → List Byte) (l : List α) : List Byte := byte l.length :: l.flatMap f

/-- The number whose bit `i` is the `i`-th of a list (R199). -/
def bitsOf : List Bool → Nat
  | [] => 0
  | b :: rest => (if b then 1 else 0) + 2 * bitsOf rest

/-- A set as a bit set of whole bytes (R199). -/
def bitSet (bytes : Nat) (l : List Bool) : List Byte :=
  (List.range bytes).map fun i => byte (bitsOf l / 256 ^ i)

/-- A map entry or pending change: a route 0 with source and head, or a card by its place in R7. -/
def Content.bytes : Content → List Byte
  | .route h => [0, byte h.source, byte h.head]
  | .card c => [c.code, absentByte, absentByte]

/-- A head as source and head. -/
def headPair (h : HeadId) : List Byte := [byte h.source, byte h.head]

/-- The dwell remaining, in milliseconds (R140). -/
def State.dwellLeft (s : State) (k : Scan) : Nat :=
  match k.timer with
  | .notStarted => 1000 * k.dwell
  | .running due => due - s.now
  | .frozen left => left

/-- The scan sub-record (R140, R150), with the conditions that freeze its timer while it is FROZEN. -/
def State.scanBytes (s : State) (c : Conn) (k : Scan) : List Byte :=
  countedList headPair k.list ++ [byte k.index] ++ le16 k.dwell ++ le24 (s.dwellLeft k)
    ++ [k.timer.code, flag k.paused, match k.timer with
      | .frozen _ => byte (bitsOf (s.freezing c k))
      | _ => absentByte]

/-- The suspend reason of a state (R1). -/
def RecordState.reason : RecordState → Option SuspendReason
  | .suspended r => some r
  | _ => none

/-- A connection record, with every field of R1. -/
def State.connBytes (s : State) (c : Conn) : List Byte :=
  [byte c.handle, byte c.desk, byte c.screen.screen, byte c.source, byte c.head.head, c.state.code,
    optByte (c.state.reason.map (·.code))] ++ le16 c.reservation
    ++ [c.origin.code, optByte (c.step.map (·.code))] ++ optGroup (c.scan.map (s.scanBytes c))
    ++ [optByte (c.replaces.map byte)]

/-- The components of a screen charge (R54, R75).  No rule gives a component its form: DESIGN CHOICE, its place in the list of
R54, the source, the head, and the head charge in two bytes (log entry 10). -/
def State.componentBytes (s : State) (scr : ScreenId) : List Byte :=
  countedList (fun p : Nat × HeadId => [byte p.1] ++ headPair p.2 ++ le16 (s.headCharge p.2)) (s.components scr)

/-- A screen charge, in two bytes as a head charge has (log entry 10), with its components. -/
def State.screenChargeBytes (s : State) (scr : ScreenId) : List Byte :=
  le16 (s.screenCharge scr) ++ s.componentBytes scr

/-- The records of a screen, the old one of a replacement before the new (R137). -/
def State.recordsOf (s : State) (scr : ScreenId) : List Conn :=
  (s.connsAt scr).filter (·.replaces.isNone) ++ (s.connsAt scr).filter (·.replaces.isSome)

/-- What QUERY_SCREEN reports (R137).  R199 does not say whether the screen's records are a list or optional groups: DESIGN
CHOICE, one counted list of 0 to 2 records.  R137 lists the scan sub-record as an item of its own after the marking slot, and R1 has
it as a field of the record: DESIGN CHOICE, it is given once, inside its record, and not again after the slot (log entry 10). -/
def State.screenReport (s : State) (scr : ScreenId) : List Byte :=
  let p := s.position scr
  p.shown.bytes ++ optGroup (p.pending.map Content.bytes) ++ countedList s.connBytes (s.recordsOf scr)
    ++ s.screenChargeBytes scr ++ [optByte ((s.markedBy scr).map fun i => byte i)]

/-- A format (02, section 2.2; R197). -/
def Format.bytes (f : Format) : List Byte := le16 f.width ++ le16 f.height ++ [byte f.refresh, byte f.depth]

/-- A change in flight, without its timer (R52, R75). -/
def TierChange.bytes (c : TierChange) : List Byte := [byte c.old, byte c.new, c.origin.code]

/-- A head's state, format, tier, change in flight and raw charge (R138).  The format and the change in flight are optional groups:
DESIGN CHOICE (log entry 10). -/
def State.headBytes (s : State) (h : HeadId) : List Byte :=
  let r := s.tier h
  [(s.head h).code] ++ optGroup ((s.head h).format.map Format.bytes) ++ [byte r.tier]
    ++ optGroup (r.change.map TierChange.bytes) ++ opt16 r.raw

/-- The four heads of a source, in order. -/
def sourceHeadIds (x : Source) : List HeadId := (List.finRange 4).map fun k => ⟨x, k⟩

/-- The control state with the fields present in it: holder and mode, or share set and active sharer (R103).  Those that are not
present are absent fields, and no optional groups: DESIGN CHOICE (log entry 10). -/
def State.controlBytes (s : State) (x : Source) : List Byte :=
  let sharer := optByte ((s.input x).sharer.map fun k => byte k.desk)
  let c := s.control x
  match c with
  | .free => [c.code, absentByte, absentByte, absentByte, absentByte, absentByte]
  | .held m d _ => [c.code, byte d, m.code, absentByte, absentByte, absentByte]
  | .shared ms => [c.code, absentByte, absentByte] ++ bitSet 2 (allDesks.map fun d => ms.contains d) ++ [sharer]

/-- The claim queue, front first: desk, rank and mode (R103). -/
def State.claimBytes (s : State) (x : Source) : List Byte :=
  countedList (fun c : Claim => [byte c.desk, byte c.rank, c.mode.code]) (s.claims x)

/-- What QUERY_SOURCE reports (R138).  R199 does not give the occupancy and kind of the deferred key slot a form: DESIGN CHOICE, an
optional group of the kind's code (log entry 10). -/
def State.sourceReport (s : State) (x : Source) : List Byte :=
  let l := s.sourceLink x
  let p := s.input x
  let k := s.sourceSettings x
  [l.link.code, byte l.headCount] ++ (sourceHeadIds x).flatMap s.headBytes
    ++ (sourceHeadIds x).flatMap (fun h => le16 (s.headCharge h)) ++ [byte (s.sourceTotal x)]
    ++ s.controlBytes x ++ s.claimBytes x ++ le16 k.controlTimeout ++ le16 k.shareInterval
    ++ [byte p.queue.length] ++ optGroup (p.deferred.map fun e => [e.body.code])
    ++ [optByte (p.led.map fun b => b.zeroExtend 8)]

/-- The bring-up step of a desk's executing connection request: 1 while it waits there, else its record's (R2, R139).  No rule gives a
step to a RECALL that works on its slot, or to a DISCONNECT that awaits its frame event: DESIGN CHOICE, the absent byte (log entry
10). -/
def State.executingStep (s : State) (d : Desk) (e : Executing) : Byte :=
  match e.phase with
  | .step1 | .held _ => 1
  | .inFlight => optByte ((s.requestedConn d).bind fun c => c.step.map (·.code))
  | .frame | .recall _ => absentByte

/-- A sensitivity set as bits (R179, R198). -/
def Sensitivity.bits (k : Sensitivity) : Byte := byte (bitsOf [k.connections, k.control, k.scans, k.tiers])

/-- A notice in a list (R133, R139). -/
def Notice.bytes (n : Notice) : List Byte :=
  [n.kind.code, optByte (n.source.map fun x => byte x), optByte (n.screen.map fun k => byte k), flag n.overflow]

/-- What QUERY_DESK reports (R139).  The bring-up step stands in the group of the executing request; the executing request, the waiting
request and the room lock are optional groups, the claimed source with its position two absent fields: DESIGN CHOICE (log entry
10). -/
def State.deskReport (s : State) (d : Desk) : List Byte :=
  let l := s.deskLink d
  let k := s.stack d
  let driven := (s.heldBy d).orElse fun _ => s.sharedBy d
  let claimed := s.claimedBy d
  [l.link.code, byte l.screenCount, byte (s.rank d)] ++ allSources.map (fun x => byte (s.right d x).code)
    ++ [optByte (driven.map fun x => byte x), optByte (claimed.map fun x => byte x),
      optByte (claimed.bind fun x => (claimPosition (s.claims x) d).map byte),
      optByte ((s.target d).map fun x => byte x), byte (s.deskTotal d)]
    ++ (deskScreens d).flatMap (fun scr => le16 (s.screenCharge scr))
    ++ optGroup (k.executing.map fun e => [e.request.body.kind, e.request.number, s.executingStep d e])
    ++ optGroup (k.waiting.map fun r => [r.body.kind, r.number])
    ++ countedList Notice.bytes (s.noticeList d)
    ++ optGroup (s.roomLock.map fun r => [r.sens.bits, r.manner.code])

/-! ## Supervisory queries (R177) -/

/-- As many whole items as fit in a number of bytes, and the place of the first that does not (R177). -/
def fitItems : Nat → List (Nat × List Byte) → List (List Byte) × Option Nat
  | _, [] => ([], none)
  | room, (n, l) :: rest =>
    if l.length ≤ room then
      let r := fitItems (room - l.length) rest
      (l :: r.1, r.2)
    else ([], some n)

/-- The desk's part of what DESK_STATUS reports. -/
def State.deskStatusHead (s : State) (d : Desk) : List Byte :=
  let k := s.deskSettings d
  s.deskReport d ++ [byte k.linkTimeout] ++ le16 k.grace ++ [flag (s.deskLink d).graceTimer.isSome]

/-- The reports of a desk's screens below its screen count, each with the screen's number. -/
def State.screenItems (s : State) (d : Desk) : List (Nat × List Byte) :=
  ((deskScreens d).filter s.screenExists).map fun scr => (scr.screen.val, s.screenReport scr)

/-- What DESK_STATUS reports: the desk, then the list of its screens below the screen count (log entry 10), of which as many are
given, from the first on, as the payload of 248 bytes holds beside the header, the desk's part and the entry count (R192; log
entry 10). -/
def State.deskStatusReport (s : State) (d : Desk) : List Byte :=
  let desk := s.deskStatusHead d
  desk ++ countedList id (fitItems (Config.maxPayload - 4 - desk.length) (s.screenItems d)).1

/-- What SOURCE_STATUS reports. -/
def State.sourceStatusReport (s : State) (x : Source) : List Byte :=
  let k := s.sourceSettings x
  s.sourceReport x ++ [byte k.linkTimeout, byte k.tierLimit, byte k.preferredTier]

/-- The head that a restoration walk is at, waiting for its change, or at which it has stopped (R73 to R75); none before a walk
has come to a head. -/
def State.walkHead (s : State) : Option HeadId :=
  match s.restoration with
  | .walking w => w.mine.orElse fun _ => w.stopped
  | _ => none

/-- The room's part of the BUDGET query.  R199 does not say whether the head that a walk is at, absent when it is at none, is two
absent fields or an optional group: DESIGN CHOICE, two absent fields (log entry 10). -/
def State.budgetRoom (s : State) : List Byte :=
  allDesks.map (fun d => byte (s.deskTotal d)) ++ allSources.map (fun x => byte (s.sourceTotal x))
    ++ countedList (fun h => [byte h]) s.resumption.list ++ [s.restoration.code]
    ++ match s.walkHead with
      | some h => headPair h
      | none => [absentByte, absentByte]

/-- A desk's part of the BUDGET query. -/
def State.budgetDesk (s : State) (d : Desk) : List Byte := (deskScreens d).flatMap s.screenChargeBytes

/-- A source's part of the BUDGET query.  The change in flight is an optional group: DESIGN CHOICE (log entry 10). -/
def State.budgetSource (s : State) (x : Source) : List Byte :=
  (sourceHeadIds x).flatMap fun h =>
    let r := s.tier h
    [byte r.tier] ++ opt16 r.raw ++ le16 (s.headCharge h) ++ [flag (s.carried h)]
      ++ optGroup (r.change.map TierChange.bytes)

/-- The charged entries of a slot as a set, absent but in ARMED and COMMITTING (R151, R199).  No rule calls them a set or a list:
DESIGN CHOICE, a bit set over the 16 entry places, always of 2 bytes, 255 in both when absent (log entry 10). -/
def Slot.chargedBytes (k : Slot) : List Byte :=
  if k.state = .armed ∨ k.state = .committing then bitSet 2 (k.entries.map (·.charged)) else [absentByte, absentByte]

/-- The report of a staging slot (R151, R177).  The entries of an EMPTY slot, absent by R151, are a list of count 0, and
the last failure is an optional group: DESIGN CHOICE (log entry 10). -/
def State.slotReport (s : State) (i : SlotIx) : List Byte :=
  let k := s.slot i
  [k.state.code, optByte (k.owner.map (·.code))] ++ countedList (fun e : SlotEntry => e.entry.image) k.entries
    ++ k.chargedBytes ++ [optByte (k.stage.map (·.code))]
    ++ optGroup (k.failure.map fun f => [byte f.1, f.2.code]) ++ [flag (k.arming.isSome || s.revalidating i)]

/-- The items of the listing from a place on: handles in use, then 80 + slot (R177). -/
def State.listing (s : State) (first : Nat) : List (Nat × List Byte) :=
  let records : List (Nat × List Byte) := s.conns.map fun c => (c.handle, s.connBytes c)
  let slots : List (Nat × List Byte) := allSlots.map fun i => (80 + i.val, s.slotReport i)
  (records ++ slots).filter fun p => first ≤ p.1

/-- What LIST_CONNECTIONS reports from a first handle: a payload of 248 bytes less the header of three, the entry count and the
place to continue from (R177, R195, R199).  Its records and slot reports are one counted list: DESIGN CHOICE (log entry 10). -/
def State.listReport (s : State) (first : Nat) : List Byte :=
  let r := fitItems (Config.maxPayload - 5) (s.listing first)
  countedList id r.1 ++ [optByte (r.2.map byte)]

/-- The marks of the change set, in the order of R178. -/
def Marks.all (m : Marks) : List Bool :=
  m.desks.toList ++ m.sources.toList ++ m.slots.toList ++ [m.room, m.store, m.settingsFault]

/-- What CHANGES reports (R178).  The room lock is an optional group: DESIGN CHOICE (log entry 10). -/
def State.changesReport (s : State) : List Byte :=
  bitSet 6 s.marks.all
    ++ if s.marks.room then
      optGroup (s.roomLock.map fun r => [r.sens.bits, r.manner.code, flag r.due.isSome])
    else []

end Sys2Proof.Machine
end

