-- ==== Sys2Proof/Machine/DeskRequests.lean ====
section
/-!
DEFINITION. The request frames of a desk unit (R127 to R139): their forms (R196), the requests that enter the stack, and the
immediate requests.
-/

namespace Sys2Proof.Machine

/-- The request number of a desk request: its first payload byte; open when there is none (log entry 20). -/
def requestNumber (kind : Byte) (payload : List Byte) : Byte :=
  match payload with
  | n :: _ => n
  | [] => Config.emptyRequestNumber kind

/-- A request of wrong length is refused with BAD_ARGUMENT before intake (R194). -/
def State.wrongLength (s : State) (d : Desk) (kind : Byte) (payload : List Byte) : State :=
  s.respond d (requestNumber kind payload) ⟨.refused, kind, .badArgument, []⟩

/-- A request frame of the connection or control group: refused when its form is wrong, else taken in (R128, R194). -/
def State.takeRequest (s : State) (d : Desk) (kind : Byte) (payload : List Byte) (r : Option Request) : State :=
  s.onDesk d fun u =>
    match r with
    | some q => u.intake d q
    | none => u.wrongLength d kind payload

/-! ## The forms of requests (R196) -/

def connectOf : List Byte → Option Request
  | [n, screen, source, head] => some ⟨n, .connect screen source head⟩
  | _ => none

def disconnectOf : List Byte → Option Request
  | [n, screen] => some ⟨n, .disconnect screen⟩
  | _ => none

/-- The length of a SCAN must equal 5 + 2n for the count n it carries (R196). -/
def scanOf : List Byte → Option Request
  | n :: screen :: lo :: hi :: count :: rest =>
    if rest.length = 2 * count.toNat then (bytePairs rest).map fun l => ⟨n, .scan screen (word16 lo hi) l⟩ else none
  | _ => none

def recallOf : List Byte → Option Request
  | [n, preset] => some ⟨n, .recall preset⟩
  | _ => none

def takeOf : List Byte → Option Request
  | [n, source, mode, preempt] => some ⟨n, .take source mode preempt⟩
  | _ => none

def shareOf : List Byte → Option Request
  | [n, source] => some ⟨n, .share source⟩
  | _ => none

def releaseOf : List Byte → Option Request
  | [n] => some ⟨n, .release⟩
  | _ => none

def withdrawOf : List Byte → Option Request
  | [n] => some ⟨n, .withdraw⟩
  | _ => none

/-! ## Requests of the connection and control groups -/

/-- CONNECT (R15). -/
def execConnect (d : Desk) (payload : List Byte) (s : State) : Host.Outcome State Fault Refusal :=
  s.take fun t => t.takeRequest d Kind.connect payload (connectOf payload)

/-- DISCONNECT (R24). -/
def execDisconnect (d : Desk) (payload : List Byte) (s : State) : Host.Outcome State Fault Refusal :=
  s.take fun t => t.takeRequest d Kind.disconnect payload (disconnectOf payload)

/-- SCAN (R141). -/
def execScan (d : Desk) (payload : List Byte) (s : State) : Host.Outcome State Fault Refusal :=
  s.take fun t => t.takeRequest d Kind.scan payload (scanOf payload)

/-- RECALL (R166). -/
def execRecall (d : Desk) (payload : List Byte) (s : State) : Host.Outcome State Fault Refusal :=
  s.take fun t => t.takeRequest d Kind.recallPreset payload (recallOf payload)

/-- TAKE (R83). -/
def execTake (d : Desk) (payload : List Byte) (s : State) : Host.Outcome State Fault Refusal :=
  s.take fun t => t.takeRequest d Kind.take payload (takeOf payload)

/-- SHARE (R90). -/
def execShare (d : Desk) (payload : List Byte) (s : State) : Host.Outcome State Fault Refusal :=
  s.take fun t => t.takeRequest d Kind.share payload (shareOf payload)

/-- RELEASE (R91). -/
def execRelease (d : Desk) (payload : List Byte) (s : State) : Host.Outcome State Fault Refusal :=
  s.take fun t => t.takeRequest d Kind.release payload (releaseOf payload)

/-- WITHDRAW (R92). -/
def execWithdraw (d : Desk) (payload : List Byte) (s : State) : Host.Outcome State Fault Refusal :=
  s.take fun t => t.takeRequest d Kind.withdraw payload (withdrawOf payload)

/-! ## Immediate requests (R130) -/

/-- NOTICE_ACK: the front notice is removed, the answer gives the number that remain, and the new front notice is sent
(R134). -/
def State.noticeAck (s : State) (d : Desk) (n : Byte) : State :=
  match s.noticeList d with
  | [] => s.respond d n ⟨.refused, Kind.noticeAck, .wrongState, []⟩
  | _ :: rest =>
    let s1 := (s.setNotices d rest).respond d n ⟨.done, Kind.noticeAck, .noDetail, [byte rest.length]⟩
    match rest with
    | [] => s1
    | x :: _ => s1.sendDesk d (.deskNotice d x)

/-- NOTICE_ACK (R134). -/
def execNoticeAck (d : Desk) (payload : List Byte) (s : State) : Host.Outcome State Fault Refusal :=
  s.ask fun t => t.onDesk d fun u =>
    match payload with
    | [n] => u.noticeAck d n
    | _ => u.wrongLength d Kind.noticeAck payload

/-- QUERY_SCREEN (R137). -/
def State.queryScreen (s : State) (d : Desk) (n screen : Byte) : State :=
  match s.screenBelow d screen with
  | some scr => s.respond d n ⟨.done, Kind.queryScreen, .noDetail, s.screenReport scr⟩
  | none => s.respond d n ⟨.refused, Kind.queryScreen, .badArgument, []⟩

/-- QUERY_SCREEN (R137). -/
def execQueryScreen (d : Desk) (payload : List Byte) (s : State) : Host.Outcome State Fault Refusal :=
  s.ask fun t => t.onDesk d fun u =>
    match payload with
    | [n, screen] => u.queryScreen d n screen
    | _ => u.wrongLength d Kind.queryScreen payload

/-- QUERY_SOURCE (R138). -/
def State.querySource (s : State) (d : Desk) (n source : Byte) : State :=
  match Byte.within 24 source with
  | none => s.respond d n ⟨.refused, Kind.querySource, .badArgument, []⟩
  | some x =>
    if s.right d x = .noRight then s.respond d n ⟨.refused, Kind.querySource, .noRight, []⟩
    else s.respond d n ⟨.done, Kind.querySource, .noDetail, s.sourceReport x⟩

/-- QUERY_SOURCE (R138). -/
def execQuerySource (d : Desk) (payload : List Byte) (s : State) : Host.Outcome State Fault Refusal :=
  s.ask fun t => t.onDesk d fun u =>
    match payload with
    | [n, source] => u.querySource d n source
    | _ => u.wrongLength d Kind.querySource payload

/-- QUERY_DESK (R139). -/
def execQueryDesk (d : Desk) (payload : List Byte) (s : State) : Host.Outcome State Fault Refusal :=
  s.ask fun t => t.onDesk d fun u =>
    match payload with
    | [n] => u.respond d n ⟨.done, Kind.queryDesk, .noDetail, u.deskReport d⟩
    | _ => u.wrongLength d Kind.queryDesk payload

end Sys2Proof.Machine
end

