-- ==== Sys2Proof/Machine/SourceLine.lean ====
section
/-!
DEFINITION. The source links (Chapter 2): their frames, their timers and loss, the head records and what the Source Link
Interface hands on at each change.
-/

namespace Sys2Proof.Machine

/-! ## Links and timers -/

/-- A receiver of a source link goes back to HUNTING: a frame has ended (R193). -/
def State.sourceFrameEnds (s : State) (x : Source) : State :=
  { s with sourceReceivers := s.sourceReceivers.set x .hunting }

/-- A valid frame on a source link: it counts as a frame since the descriptor in INITIAL, and restarts the silence timer in
UP (R37, R38). -/
def State.sourceFrame (s : State) (x : Source) : State :=
  let l := s.sourceLink x
  match l.link with
  | .down => s
  | .initial => s.setSourceLink x { l with frameSince := true }
  | .up => s.setSourceLink x { l with silenceTimer := some (s.inSeconds (s.sourceSettings x).linkTimeout) }

/-- An accepted frame other than DESCRIPTOR: discarded on a DOWN link, else a valid frame with its effect (R36 to R38). -/
def State.onSource (s : State) (x : Source) (f : State → State) : State :=
  let s1 := s.sourceFrameEnds x
  if s1.sourceLive x then f (s1.sourceFrame x) else s1

/-! ## Records of a head (R26, R27) -/

/-- The card of the WAITING records of a head is posted where the card due has changed (R26). -/
def State.repostWaiting (s : State) (h : HeadId) : State :=
  ((s.conns.filter fun c => c.head = h && c.state = .waiting).map (·.handle)).foldl State.postFor s

/-- The states that a head leaving ACTIVE moves to WAITING (R26). -/
def RecordState.leaves : RecordState → Bool
  | .admitting | .switching | .live | .suspended .budget => true
  | _ => false

/-- The records of a head that has left ACTIVE (R26). -/
def State.headLeft (s : State) (h : HeadId) : State :=
  let s1 := ((s.conns.filter fun c => c.head = h && c.state.leaves).map (·.handle)).foldl
    (fun t k => t.enter k .waiting) s
  s1.repostWaiting h

/-- The Budget Unit is told that a head has left ACTIVE: its change in flight is abandoned and its raw charge withdrawn (R46,
R68); on a link that has gone DOWN it has no last named tier either (R52). -/
def State.budgetHeadLeft (s : State) (h : HeadId) (linkDown : Bool) : State :=
  if linkDown then
    let s1 := s.abandonChange h true
    s1.setTier h { tier := s.preferredTier h, raw := none, change := none, lastNamed := none }
  else
    let s1 := if (s.tier h).change.isSome then s.returnHead h else s
    s1.setTier h { s1.tier h with raw := none }

/-- Heads take new records that are not ACTIVE, and the change is handed on: to the Budget Unit for the heads that were ACTIVE
(for every head when the link has gone DOWN), then to the Connection Manager (R40, R41, R46).  An admission whose change on a head
of another's is abandoned so is refused with TIER_TIMEOUT before the Connection Manager moves the records (R68).  R41 gives the TIER_SETs of several
heads that one smaller head count ends no order: DESIGN CHOICE, first those of the heads with a change in flight, in head order,
then those of `State.account` (log entry 49). -/
def State.headsChange (s : State) (changes : List (HeadId × HeadRecord)) (linkDown : Bool) : State :=
  let left := (changes.map (·.1)).filter s.headActive
  let s1 := changes.foldl (fun t p => t.setHead p.1 p.2) s
  let s2 := (if linkDown then changes.map (·.1) else left).foldl (fun t h => t.budgetHeadLeft h linkDown) s1
  let s3 := s.account s2 true
  let s4 := State.refuseFailed s3.admissions.length s3
  changes.foldl (fun t p => if left.contains p.1 then t.headLeft p.1 else t.repostWaiting p.1) s4

/-- The Layout Stager is told of heads that have changed; those that were ACTIVE have left it (R40, R46, R163). -/
def State.stagerHeads (s : State) (left moved : List HeadId) : State :=
  moved.foldl State.stagerHeadMoved (left.foldl State.stagerHeadLeft s)

/-- The four heads of a source. -/
def headsOf (x : Source) : List HeadId := (List.finRange 4).map fun k => ⟨x, k⟩

/-! ## The link going DOWN (R40) -/

/-- The source link enters DOWN, with every effect of R40. -/
def State.sourceDown (s : State) (x : Source) : State :=
  let present := (headsOf x).filter fun h => !(s.head h).isAbsent
  let left := (headsOf x).filter s.headActive
  let s1 := s.changeSourceLink x { s.sourceLink x with
    link := .down, initialTimer := none, silenceTimer := none, frameSince := false }
  let s2 := s1.headsChange ((headsOf x).map fun h => (h, .absent)) true
  let s3 := s2.inputLinkDown x
  s3.stagerHeads left (present.filter fun h => !left.contains h)

/-! ## DESCRIPTOR (R36, R41) -/

/-- TIER_SETs naming the preferred tier, for heads of a source (R36, R41).  The rules give the frames of several heads no order:
DESIGN CHOICE, ascending head order (log entry 48). -/
def State.nameTiers (s : State) (x : Source) (p : HeadIx → Bool) : State :=
  ((headsOf x).filter fun h => p h.head).foldl (fun t h => t.sendTierSet h (t.preferredTier h)) s

/-- The heads of a source at or beyond a head count. -/
def headsBeyond (x : Source) (n : Nat) : List HeadId := (headsOf x).filter fun h => n ≤ h.head.val

/-- A DESCRIPTOR that brings a DOWN link to INITIAL (R36).  Where its head count is smaller than the one that stood, the Layout
Stager is told of the heads that fall beyond it (R157, R161). -/
def State.sourceUp (s : State) (x : Source) (n : Nat) : State :=
  let old := (s.sourceLink x).headCount
  let s1 := s.changeSourceLink x { s.sourceLink x with
    link := .initial, headCount := n, frameSince := false,
    initialTimer := some (s.now + Config.initialPeriod), silenceTimer := none }
  let s2 := s1.nameTiers x fun k => k.val < n
  if n < old then (headsBeyond x n).foldl State.stagerHeadBeyond s2 else s2

/-- A DESCRIPTOR on a live link with a new head count (R41). -/
def State.changeHeadCount (s : State) (x : Source) (n : Nat) : State :=
  let old := (s.sourceLink x).headCount
  let s1 := s.changeSourceLink x { s.sourceLink x with headCount := n }
  if n < old then
    let beyond := headsBeyond x n
    let left := beyond.filter s.headActive
    let moved := beyond.filter fun h => !(s.head h).isAbsent && !s.headActive h
    let s2 := s1.headsChange ((beyond.filter fun h => !(s.head h).isAbsent).map fun h => (h, .absent)) false
    beyond.foldl State.stagerHeadBeyond (s2.stagerHeads left moved)
  else s1.nameTiers x fun k => old ≤ k.val && k.val < n

/-- A source DESCRIPTOR (R36, R41, R194); discarded while the start-up after a RESTART runs (R182). -/
def State.takeSourceDescriptor (s : State) (x : Source) (payload : List Byte) : State :=
  let s1 := s.sourceFrameEnds x
  match payload with
  | [n] =>
    if s1.starting || (n.toNat < 1 ∨ 4 < n.toNat) then s1
    else if s1.sourceLive x then
      let s2 := s1.sourceFrame x
      if n.toNat = (s2.sourceLink x).headCount then s2 else s2.changeHeadCount x n.toNat
    else s1.sourceUp x n.toNat
  | _ => s1.sourceFrame x

/-- SOURCE_DESCRIPTOR (R36). -/
def execSourceDescriptor (x : Source) (payload : List Byte) (s : State) : Host.Outcome State Fault Refusal :=
  s.take fun t => t.takeSourceDescriptor x payload

/-- SOURCE_HEARTBEAT (R38): nothing beyond the timers, whatever its length (R194). -/
def execSourceHeartbeat (x : Source) (_payload : List Byte) (s : State) : Host.Outcome State Fault Refusal :=
  s.take fun t => t.onSource x id

/-- SOURCE_UNKNOWN_KIND (R194): discarded, but a valid frame. -/
def execSourceUnknownKind (x : Source) (_kind : Byte) (_payload : List Byte) (s : State) :
    Host.Outcome State Fault Refusal :=
  s.take fun t => t.onSource x id

/-! ## HEAD_FORMAT (R44, R46) -/

/-- What a HEAD_FORMAT payload announces: a head, and a format or none (R194, R197); none for a wrong length, a presence byte
other than 0 and 1, or a head above 3. -/
def headFormatOf (x : Source) : List Byte → Option (HeadId × Option Format)
  | [h, p] => if p = 0 then (Byte.within 4 h).map fun k => (⟨x, k⟩, none) else none
  | [h, p, w0, w1, h0, h1, r, d] =>
    if p = 1 then (Byte.within 4 h).map fun k =>
      (⟨x, k⟩, some { width := word16 w0 w1, height := word16 h0 h1, refresh := r.toNat, depth := d.toNat })
    else none
  | _ => none

/-- A head takes a record that is not ACTIVE, with all that follows (R26, R46, R163). -/
def State.headBecomes (s : State) (h : HeadId) (r : HeadRecord) : State :=
  let s1 := s.headsChange [(h, r)] false
  if s.headActive h then s1.stagerHeads [h] [] else s1.stagerHeads [] [h]

/-- The record of a head in SETTLING on a format from now on (R44). -/
def State.settling (s : State) (f : Format) : HeadRecord := .settling f (s.now + Config.settleTime)

/-- A HEAD_FORMAT for a head below the head count (R44, R46). -/
def State.announce (s : State) (h : HeadId) (f : Option Format) : State :=
  match s.head h, f with
  | .absent, none => s
  | .absent, some g | .settling _ _, some g => s.headBecomes h (s.settling g)
  | .settling _ _, none => s.headBecomes h .absent
  | .active g0, some g | .unsupported g0, some g => if g = g0 then s else s.headBecomes h (s.settling g)
  | .active _, none | .unsupported _, none => s.headBecomes h .absent

/-- HEAD_FORMAT (R42, R44, R46). -/
def execHeadFormat (x : Source) (payload : List Byte) (s : State) : Host.Outcome State Fault Refusal :=
  s.take fun t => t.onSource x fun u =>
    match headFormatOf x payload with
    | some (h, f) => if u.headExists h then u.announce h f else u
    | none => u

/-! ## TIER_ACK and LED_STATE -/

/-- TIER_ACK (R66, R194). -/
def execTierAck (x : Source) (payload : List Byte) (s : State) : Host.Outcome State Fault Refusal :=
  s.take fun t => t.onSource x fun u =>
    match payload with
    | [h, n] => match Byte.within 4 h, Byte.within 4 n with
      | some k, some tier => if u.headExists ⟨x, k⟩ then u.acknowledge ⟨x, k⟩ tier else u
      | _, _ => u
    | _ => u

/-- An LED_STATE carrying a set (R114, R115). -/
def State.takeLed (s : State) (x : Source) (set : BitVec 5) : State :=
  let p := s.input x
  if p.led = some set then s
  else
    let s1 := (s.setInput x { p with led := some set }).markSource x
    allDesks.foldl (fun t d => if t.target d = some x then t.sendDesk d (.deskLed d (some x) set) else t) s1

/-- LED_STATE (R114). -/
def execLedState (x : Source) (payload : List Byte) (s : State) : Host.Outcome State Fault Refusal :=
  s.take fun t => t.onSource x fun u =>
    match payload with
    | [b] => u.takeLed x (b.truncate 5)
    | _ => u

/-! ## Timers and loss -/

/-- The initial timer expires (R37). -/
def State.sourceInitialExpiry (s : State) (x : Source) : State :=
  let l := s.sourceLink x
  match l.link, l.initialTimer with
  | .initial, some due =>
    let s1 := s.reach due
    if l.frameSince then
      s1.changeSourceLink x { l with
        link := .up, initialTimer := none, silenceTimer := some (s1.inSeconds (s1.sourceSettings x).linkTimeout) }
    else s1.sourceDown x
  | _, _ => s

/-- SOURCE_INITIAL_TIMER_EXPIRY (R37). -/
def execSourceInitialTimerExpiry (x : Source) (s : State) : Host.Outcome State Fault Refusal :=
  s.take fun t => t.sourceInitialExpiry x

/-- The silence timer expires (R38). -/
def State.sourceSilenceExpiry (s : State) (x : Source) : State :=
  let l := s.sourceLink x
  match l.link, l.silenceTimer with
  | .up, some due => (s.reach due).sourceDown x
  | _, _ => s

/-- SOURCE_SILENCE_TIMER_EXPIRY (R38). -/
def execSourceSilenceTimerExpiry (x : Source) (s : State) : Host.Outcome State Fault Refusal :=
  s.take fun t => t.sourceSilenceExpiry x

/-- SOURCE_LINK_LOSS (R39): also the end of a frame being received (R193). -/
def execSourceLinkLoss (x : Source) (s : State) : Host.Outcome State Fault Refusal :=
  s.take fun t =>
    let u := t.sourceFrameEnds x
    if u.sourceLive x then u.sourceDown x else u

/-- A format is in range (R43). -/
def formatInRange (f : Format) : Bool :=
  (640 ≤ f.width ∧ f.width ≤ 4096 ∧ f.width % 8 = 0) ∧ (480 ≤ f.height ∧ f.height ≤ 2400) ∧
    (24 ≤ f.refresh ∧ f.refresh ≤ 120) ∧ (f.depth = 18 ∨ f.depth = 24 ∨ f.depth = 30)

/-- A head enters ACTIVE (R45, R27): the Budget Unit computes its raw charge and sets its preferred tier, its WAITING and FAULT
records are listed for re-admission, the Stager is told. -/
def State.headActivates (s : State) (h : HeadId) (f : Format) : State :=
  let s1 := s.setHead h (.active f)
  let s2 := s1.setTier h { s1.tier h with tier := s1.preferredTier h, raw := some (rawCharge f) }
  let s3 := s.account s2 true
  let s4 := s3.listReadmit .headActive fun c => c.head = h && (c.state = .waiting || c.state = .fault)
  s4.stagerHeadActive h

/-- The settle timer of a head expires (R45). -/
def State.settleExpiry (s : State) (h : HeadId) : State :=
  match s.head h with
  | .settling f due =>
    let s1 := s.reach due
    if formatInRange f then s1.headActivates h f else s1.headBecomes h (.unsupported f)
  | _ => s

/-- SETTLE_TIMER_EXPIRY (R45). -/
def execSettleTimerExpiry (x : Source) (k : HeadIx) (s : State) : Host.Outcome State Fault Refusal :=
  s.take fun t => t.settleExpiry ⟨x, k⟩

/-- The tier change timer of a head expires (R67). -/
def State.tierChangeExpiry (s : State) (h : HeadId) : State :=
  match (s.tier h).change with
  | some c => (s.reach c.due).changeTimeout h
  | none => s

/-- TIER_CHANGE_TIMER_EXPIRY (R67). -/
def execTierChangeTimerExpiry (x : Source) (k : HeadIx) (s : State) : Host.Outcome State Fault Refusal :=
  s.take fun t => t.tierChangeExpiry ⟨x, k⟩

/-- The transmitter completes its frame and looks for the next (R112). -/
def State.transmitted (s : State) (x : Source) : State :=
  let p := s.input x
  match p.sending with
  | none => s
  | some f => ((s.setInput x { p with sending := none }).emit (.toSource x f)).kick x

/-- TRANSMITTER_COMPLETE (R112). -/
def execTransmitterComplete (x : Source) (s : State) : Host.Outcome State Fault Refusal :=
  s.take fun t => t.transmitted x

/-! ## PORT_RESET of a source (R48) -/

/-- The source's link goes DOWN, and its head count is restored to 4 (R48); the source is marked. -/
def State.resetSource (s : State) (x : Source) : State :=
  let s1 := if s.sourceLive x then s.sourceDown x else s
  (s1.changeSourceLink x { s1.sourceLink x with headCount := 4 }).markSource x

end Sys2Proof.Machine
end

