-- ==== Sys2Proof/Machine/Startup.lean ====
section
/-!
DEFINITION. Start-up (R190, R191) and the Configuration Store's commands' shared parts (Chapter 10).
-/

namespace Sys2Proof.Machine

/-- The settings region matches its stored check value (R185). -/
def Store.regionMatches (k : Store) : Bool := k.regionCheck = some (checkValue k.region.image)

/-- A VALID preset that does not match is CORRUPT; others are as they were (R188 to R190). -/
def Preset.checked (p : Preset) : Preset := if p.matches then p else .corrupt

/-- The store as a cut-short operation leaves it: a preset being written holds an image without a matching check value (R186
to R189).  The region's and an erased preset's check values are invalidated as the operation begins; a BLANK preset being
erased has none, and stays BLANK (log entry 33). -/
def Store.cutShort (k : Store) : Store :=
  match k.op with
  | some (.writePreset p _) => { k with op := none, presets := k.presets.set p .corrupt }
  | _ => { k with op := none }

/-- The store after the checks of start-up (R190, steps 2 and 3). -/
def Store.started (k : Store) : Store :=
  let c := k.cutShort
  { c with settingsGood := c.regionMatches, presets := c.presets.map Preset.checked }

/-- The working settings that start-up loads (R190, step 2). -/
def Store.settingsAtStart (k : Store) : Settings := if k.regionMatches then k.region else Settings.factory

/-- Every record at its value after power-up and RESTART, under the settings loaded, with the grace timers not started yet
(R190).  The clock, the store, the frames sent and the commands waiting stand. -/
def State.cleared (s : State) : State :=
  let store := s.store.started
  let settings := s.store.settingsAtStart
  { State.reset with
    now := s.now
    frameRate := settings.room.houseRate
    tiers := settings.sources.map fun k => Vector.replicate 4 (TierRecord.fresh k.preferredTier)
    deskLinks := Vector.replicate 16 (DeskLink.fresh none)
    settings := settings
    store := store
    marks := Marks.atStart (!store.settingsGood)
    sent := s.sent
    pending := s.pending }

/-- A record of the start preset (R191). -/
def startConn (n : Handle) (scr : ScreenId) (h : HeadId) : Conn where
  handle := n
  screen := scr
  head := h
  state := .suspended .deskAbsent
  reservation := 0
  origin := .start
  step := none
  scan := none
  replaces := none
  answerTo := none
  auto := none
  posted := false
  prior := none

/-- The records of the start preset (R191, step 4). -/
def State.loadStart (s : State) : State :=
  match s.room.startPreset with
  | none => s
  | some p =>
    match s.store.presets[p] with
    | .valid es _ => es.foldl (fun t e => match e.target, t.lowestFree with
        | .head h, some n => t.createConn (startConn n e.screen h)
        | _, _ => t) s
    | _ => s

/-- Every desk's grace timer is started; one of 0 expires as it starts (R191, step 5). -/
def State.startGrace (s : State) : State :=
  allDesks.foldl (fun t d =>
    let n := (t.deskSettings d).grace
    if n = 0 then t.retireDesk d
    else t.setDeskLink d { t.deskLink d with graceTimer := some (t.inSeconds n) }) s

/-- The start-up sequence up to its last step (R190, and R191, step 4). -/
def State.beginStartUp (s : State) : State := s.cleared.loadStart

/-- The start-up sequence (R190, R191). -/
def State.startUp (s : State) : State := s.beginStartUp.startGrace

/-- The start-up after a RESTART ends with its last step, and RESTART ceases to be the command in progress (R182, R191). -/
def State.endStartUp (s : State) : State := { s.startGrace with command := none }

/-- POWER_UP (R190): power is applied, and start-up runs.  A module that has power is not changed. -/
def execPowerUp (s : State) : Host.Outcome State Fault Refusal :=
  if s.powered then .next s else .next s.startUp

/-- POWER_FAIL (R186, R190): the module stops; a store operation under way is cut short, its check value having been
invalidated when it began. -/
def execPowerFail (s : State) : Host.Outcome State Fault Refusal := .next { s with powered := false }

end Sys2Proof.Machine
end

