-- ==== Sys2Proof/Machine/Supervisory.lean ====
section
/-!
DEFINITION. The supervisory line (Chapter 9): command discipline, configuration, force commands, PORT_RESET, queries, the
room lock and RESTART; with them the timers of the room.
-/

namespace Sys2Proof.Machine

/-! ## Command discipline (R168, R169) -/

/-- An accepted frame on the supervisory line: answered BUSY while a command is in progress, else carried out (R168). -/
def State.onSupervisor (s : State) (kind : Byte) (f : State → State) : State :=
  let s1 := s.setReceiver .supervisory .hunting
  if s1.command.isSome then s1.reply kind .busy .noDetail [] else f s1

/-- A command refused (R169). -/
def State.refuse (s : State) (kind : Byte) (d : Detail) : State := s.reply kind .refused d []

/-- A command answered DONE with data (R169). -/
def State.done (s : State) (kind : Byte) (data : List Byte) : State := s.reply kind .done .noDetail data

/-- A supervisory frame with its work. -/
def State.onCommand (s : State) (kind : Byte) (f : State → State) : Host.Outcome State Fault Refusal :=
  s.take fun t => t.onSupervisor kind f

/-- BUSY (R168): a frame of any kind while a command is in progress. -/
def execBusy (kind : Byte) (_payload : List Byte) (s : State) : Host.Outcome State Fault Refusal :=
  s.onCommand kind id

/-- SUPERVISORY_UNKNOWN_KIND (R169, R194). -/
def execSupervisoryUnknownKind (kind : Byte) (_payload : List Byte) (s : State) : Host.Outcome State Fault Refusal :=
  s.onCommand kind fun t => t.reply kind .nak .unknownKind []

/-- PING (R169). -/
def execPing (payload : List Byte) (s : State) : Host.Outcome State Fault Refusal :=
  s.onCommand Kind.ping fun t => if payload.isEmpty then t.done Kind.ping [] else t.refuse Kind.ping .badArgument

/-- VERSION (R169). -/
def execVersion (payload : List Byte) (s : State) : Host.Outcome State Fault Refusal :=
  s.onCommand Kind.version fun t =>
    if payload.isEmpty then t.done Kind.version [Config.version, Config.revision] else t.refuse Kind.version .badArgument

/-! ## Configuration commands (R170 to R173) -/

/-- A configuration command is answered DONE, ADJUSTED where a value was clamped or adjusted, with the values now standing for
the selected fields (R170). -/
def State.configured (s : State) (kind : Byte) (adjusted : Bool) (data : List Byte) : State :=
  s.reply kind .done (if adjusted then .adjusted else .noDetail) data

/-- The bytes of the selected fields, in order (R170). -/
def selected (fs : Byte) (fields : List (List Byte)) : List Byte :=
  (fields.zipIdx.filter fun p => selects fs p.2).flatMap (·.1)

/-- The value a selected field takes, or the one that stands (R170). -/
def chosen (fs : Byte) (i : Nat) (new old : Nat) : Nat := if selects fs i then new else old

/-- A field is selected and its value is outside its range (R170). -/
def adjusts (fs : Byte) (i : Nat) (given taken : Nat) : Bool := selects fs i && given ≠ taken

/-- A desk's settings are set; a change marks the desk, and a change of rank re-sorts its claim queue (R80, R171). -/
def State.setDeskSettings (s : State) (d : Desk) (k : DeskSettings) : State :=
  let old := s.deskSettings d
  let s1 := { s with settings := { s.settings with desks := s.settings.desks.set d k } }
  let s2 := if old = k then s1 else s1.markDesk d
  if old.rank = k.rank then s2
  else match s2.claimedBy d with
    | some x => s2.setClaims x (sortClaims ((s2.claims x).map fun c => if c.desk = d then { c with rank := k.rank } else c))
    | none => s2

/-- SET_DESK with its fields (R171). -/
def State.setDesk (s : State) (d : Desk) (fs rank link : Byte) (grace : Nat) : State :=
  let old := s.deskSettings d
  let r := clamp 0 7 rank.toNat
  let l := clamp 1 30 link.toNat
  let g := clamp 0 600 grace
  let k : DeskSettings := {
    rank := chosen fs 0 r old.rank, linkTimeout := chosen fs 1 l old.linkTimeout, grace := chosen fs 2 g old.grace }
  (s.setDeskSettings d k).configured Kind.setDesk
    (adjusts fs 0 rank.toNat r || adjusts fs 1 link.toNat l || adjusts fs 2 grace g)
    (selected fs [[byte k.rank], [byte k.linkTimeout], le16 k.grace])

/-- SET_DESK (R171). -/
def execSetDesk (payload : List Byte) (s : State) : Host.Outcome State Fault Refusal :=
  s.onCommand Kind.setDesk fun t =>
    match payload with
    | [d, fs, rank, link, g0, g1] => match Byte.within 16 d with
      | some desk => t.setDesk desk fs rank link (word16 g0 g1)
      | none => t.refuse Kind.setDesk .badArgument
    | _ => t.refuse Kind.setDesk .badArgument

/-- A pair of SET_RIGHTS: a source and a level (R171). -/
def rightsPair (p : Byte × Byte) : Option (Source × Right) :=
  match Byte.within 24 p.1, Right.ofCode p.2.toNat with
  | some x, some r => some (x, r)
  | _, _ => none

/-- SET_RIGHTS with its pairs, the later of two for one source being used (R171); a changed cell marks the desk. -/
def State.setRights (s : State) (d : Desk) (l : List (Source × Right)) : State :=
  let row := l.foldl (fun v p => v.set p.1 p.2) s.settings.rights[d]
  let s1 := { s with settings := { s.settings with rights := s.settings.rights.set d row } }
  let s2 := if row = s.settings.rights[d] then s1 else s1.markDesk d
  s2.configured Kind.setRights false (countedList (fun p => [byte (s2.right d p.1).code]) l)

/-- SET_RIGHTS (R171). -/
def execSetRights (payload : List Byte) (s : State) : Host.Outcome State Fault Refusal :=
  s.onCommand Kind.setRights fun t =>
    match payload with
    | d :: n :: rest =>
      match Byte.within 16 d, (bytePairs rest).bind (readAll rightsPair) with
      | some desk, some l =>
        if l.length = n.toNat ∧ 1 ≤ l.length ∧ l.length ≤ 24 then t.setRights desk l
        else t.refuse Kind.setRights .badArgument
      | _, _ => t.refuse Kind.setRights .badArgument
    | _ => t.refuse Kind.setRights .badArgument

/-- Some head of a source is carried, staged or held by an admission (R172). -/
def State.sourceBound (s : State) (x : Source) : Bool :=
  (headsOf x).any fun h => s.carried h || s.staged h || s.holds h

/-- Every head of a source takes its preferred tier, and a TIER_SET is sent for each head below the head count, in ascending order
(R69, R172; log entry 48). -/
def State.takePreferred (s : State) (x : Source) : State :=
  let s1 := (headsOf x).foldl (fun t h => t.setTier h { t.tier h with tier := t.preferredTier h }) s
  s1.nameTiers x fun k => k.val < (s.sourceLink x).headCount

/-- The control timeout in its range (R172). -/
def clampControl (n : Nat) : Nat := if n = 0 then 0 else clamp 5 3600 n

/-- The highest tier not above 3, of a number (R172). -/
def tierOf (n : Nat) : Tier := ⟨min n 3, by omega⟩

/-- A source's settings are set (R172): a change marks the source, a change of preferred tier reaches its heads, a change of
control timeout tests for idle release (R97). -/
def State.setSourceSettings (s : State) (x : Source) (k : SourceSettings) : State :=
  let old := s.sourceSettings x
  let s1 := { s with settings := { s.settings with sources := s.settings.sources.set x k } }
  let s2 := if old = k then s1 else s1.markSource x
  let s3 := if old.preferredTier = k.preferredTier then s2 else s2.takePreferred x
  if old.controlTimeout = k.controlTimeout then s3 else s3.idleTest x

/-- SET_SOURCE with its fields (R172). -/
def State.setSource (s : State) (x : Source) (fs link limit preferred : Byte) (control share : Nat) : State :=
  let old := s.sourceSettings x
  let l := clamp 1 30 link.toNat
  let newLimit : Tier := if selects fs 1 then tierOf limit.toNat else old.tierLimit
  let asked : Tier := if selects fs 2 then tierOf preferred.toNat else old.preferredTier
  let newPreferred : Tier := if newLimit < asked then newLimit else asked
  let c := clampControl control
  let i := clamp 200 5000 share
  let k : SourceSettings := {
    linkTimeout := chosen fs 0 l old.linkTimeout, tierLimit := newLimit, preferredTier := newPreferred,
    controlTimeout := chosen fs 3 c old.controlTimeout, shareInterval := chosen fs 4 i old.shareInterval }
  let changes := (selects fs 1 && newLimit ≠ old.tierLimit) || (selects fs 2 && newPreferred ≠ old.preferredTier)
  if changes && s.sourceBound x then s.refuse Kind.setSource .sourceCarried
  else
    let adjusted := adjusts fs 0 link.toNat l || adjusts fs 1 limit.toNat newLimit.val
      || adjusts fs 2 preferred.toNat newPreferred.val || (!selects fs 2 && newPreferred ≠ old.preferredTier)
      || adjusts fs 3 control c || adjusts fs 4 share i
    (s.setSourceSettings x k).configured Kind.setSource adjusted
      (selected fs [[byte k.linkTimeout], [byte k.tierLimit], [byte k.preferredTier], le16 k.controlTimeout,
        le16 k.shareInterval])

/-- SET_SOURCE (R172). -/
def execSetSource (payload : List Byte) (s : State) : Host.Outcome State Fault Refusal :=
  s.onCommand Kind.setSource fun t =>
    match payload with
    | [x, fs, link, limit, preferred, c0, c1, i0, i1] => match Byte.within 24 x with
      | some src => t.setSource src fs link limit preferred (word16 c0 c1) (word16 i0 i1)
      | none => t.refuse Kind.setSource .badArgument
    | _ => t.refuse Kind.setSource .badArgument

/-- The start preset a byte names: 255 for none (R173, R198). -/
def startPresetOf (b : Byte) : Option (Option PresetIx) :=
  if b = 255 then some none else (Byte.within 32 b).map some

/-- SET_ROOM with its fields, the start preset being read only where it is selected (R173). -/
def State.setRoom (s : State) (fs rate : Byte) (lockTimeout : Nat) (delay : Byte) (hold : Nat)
    (start : Option PresetIx) : State :=
  let old := s.room
  let r := clamp 24 120 rate.toNat
  let l := clamp 100 2000 lockTimeout
  let d := clamp 0 60 delay.toNat
  let h := clamp 10 300 hold
  let k : RoomSettings := {
    houseRate := chosen fs 0 r old.houseRate, lockTimeout := chosen fs 1 l old.lockTimeout,
    restorationDelay := chosen fs 2 d old.restorationDelay, armHold := chosen fs 3 h old.armHold,
    startPreset := if selects fs 4 then start else old.startPreset }
  let s1 := { s with settings := { s.settings with room := k } }
  (if old = k then s1 else s1.markRoom).configured Kind.setRoom
    (adjusts fs 0 rate.toNat r || adjusts fs 1 lockTimeout l || adjusts fs 2 delay.toNat d || adjusts fs 3 hold h)
    (selected fs [[byte k.houseRate], le16 k.lockTimeout, [byte k.restorationDelay], le16 k.armHold,
      [startPresetByte k.startPreset]])

/-- SET_ROOM (R173). -/
def execSetRoom (payload : List Byte) (s : State) : Host.Outcome State Fault Refusal :=
  s.onCommand Kind.setRoom fun t =>
    match payload with
    | [fs, rate, l0, l1, delay, h0, h1, start] =>
      match startPresetOf start with
      | some p => t.setRoom fs rate (word16 l0 l1) delay (word16 h0 h1) p
      | none =>
        if selects fs 4 then t.refuse Kind.setRoom .badArgument
        else t.setRoom fs rate (word16 l0 l1) delay (word16 h0 h1) none
    | _ => t.refuse Kind.setRoom .badArgument

/-! ## Force commands and PORT_RESET (R174, R175) -/

/-- A force command becomes the command in progress and takes up step 1 (R33, R34). -/
def State.startForce (s : State) (c : Command) : State := { s with command := some c }.beginForce

/-- FORCE_CONNECT (R33). -/
def execForceConnect (payload : List Byte) (s : State) : Host.Outcome State Fault Refusal :=
  s.onCommand Kind.forceConnect fun t =>
    match payload with
    | [d, k, x, h] => match screenOf d k, headOf x h with
      | some scr, some head => t.startForce (.forceConnect scr head .step1)
      | _, _ => t.refuse Kind.forceConnect .badArgument
    | _ => t.refuse Kind.forceConnect .badArgument

/-- FORCE_DISCONNECT (R34). -/
def execForceDisconnect (payload : List Byte) (s : State) : Host.Outcome State Fault Refusal :=
  s.onCommand Kind.forceDisconnect fun t =>
    match payload with
    | [d, k] => match screenOf d k with
      | some scr => t.startForce (.forceDisconnect scr .step1)
      | none => t.refuse Kind.forceDisconnect .badArgument
    | _ => t.refuse Kind.forceDisconnect .badArgument

/-- FORCE_RELEASE (R101). -/
def execForceRelease (payload : List Byte) (s : State) : Host.Outcome State Fault Refusal :=
  s.onCommand Kind.forceRelease fun t =>
    match payload with
    | [x] => match Byte.within 24 x with
      | some src =>
        let r := t.doForceRelease src
        (State.arbitrate (r.1, r.2.1)).reply Kind.forceRelease .done r.2.2 []
      | none => t.refuse Kind.forceRelease .badArgument
    | _ => t.refuse Kind.forceRelease .badArgument

/-- A reset is answered once its effects have been made, those on the Connection Table, the Layout Stager and the Input Router
included: after all the work that the reset has made due in its taking (R175). -/
def State.afterReset (s : State) : State := s.settle.done Kind.portReset []

/-- PORT_RESET (R175). -/
def State.portReset (s : State) (kind n : Byte) : State :=
  match kind.toNat, Byte.within 16 n, Byte.within 24 n with
  | 0, some d, _ => (s.resetDesk d).afterReset
  | 1, _, some x => (s.resetSource x).afterReset
  | _, _, _ => s.refuse Kind.portReset .badArgument

/-- PORT_RESET (R175). -/
def execPortReset (payload : List Byte) (s : State) : Host.Outcome State Fault Refusal :=
  s.onCommand Kind.portReset fun t =>
    match payload with
    | [kind, n] => t.portReset kind n
    | _ => t.refuse Kind.portReset .badArgument

/-! ## Queries (R177, R178) -/

/-- A supervisory query: it leaves no work. -/
def State.onQuery (s : State) (kind : Byte) (f : State → State) : Host.Outcome State Fault Refusal :=
  s.ask fun t => t.onSupervisor kind f

/-- LIST_CONNECTIONS (R177). -/
def execListConnections (payload : List Byte) (s : State) : Host.Outcome State Fault Refusal :=
  s.onQuery Kind.listConnections fun t =>
    match payload with
    | [n] =>
      if 83 < n.toNat then t.refuse Kind.listConnections .badArgument
      else t.done Kind.listConnections (t.listReport n.toNat)
    | _ => t.refuse Kind.listConnections .badArgument

/-- DESK_STATUS (R177). -/
def execDeskStatus (payload : List Byte) (s : State) : Host.Outcome State Fault Refusal :=
  s.onQuery Kind.deskStatus fun t =>
    match payload with
    | [n] => match Byte.within 16 n with
      | some d => t.done Kind.deskStatus (t.deskStatusReport d)
      | none => t.refuse Kind.deskStatus .badArgument
    | _ => t.refuse Kind.deskStatus .badArgument

/-- SOURCE_STATUS (R177). -/
def execSourceStatus (payload : List Byte) (s : State) : Host.Outcome State Fault Refusal :=
  s.onQuery Kind.sourceStatus fun t =>
    match payload with
    | [n] => match Byte.within 24 n with
      | some x => t.done Kind.sourceStatus (t.sourceStatusReport x)
      | none => t.refuse Kind.sourceStatus .badArgument
    | _ => t.refuse Kind.sourceStatus .badArgument

/-- BUDGET (R177). -/
def State.budgetQuery (s : State) (part n : Byte) : State :=
  match part.toNat, Byte.within 16 n, Byte.within 24 n with
  | 0, _, _ => s.done Kind.budget s.budgetRoom
  | 1, some d, _ => s.done Kind.budget (s.budgetDesk d)
  | 2, _, some x => s.done Kind.budget (s.budgetSource x)
  | _, _, _ => s.refuse Kind.budget .badArgument

/-- BUDGET (R177). -/
def execBudget (payload : List Byte) (s : State) : Host.Outcome State Fault Refusal :=
  s.onQuery Kind.budget fun t =>
    match payload with
    | [part, n] => t.budgetQuery part n
    | _ => t.refuse Kind.budget .badArgument

/-- A change set with every mark clear (R178). -/
def Marks.clear : Marks where
  desks := Vector.replicate 16 false
  sources := Vector.replicate 24 false
  slots := Vector.replicate 4 false
  room := false
  store := false
  settingsFault := false

/-- CHANGES (R178). -/
def execChanges (payload : List Byte) (s : State) : Host.Outcome State Fault Refusal :=
  s.onQuery Kind.changes fun t =>
    if payload.isEmpty then { t.done Kind.changes t.changesReport with marks := Marks.clear }
    else t.refuse Kind.changes .badArgument

/-! ## The room lock (R179 to R181) -/

/-- Whether the request executing at a desk, in a group of the lock's set, is cancelled by a HARD lock: it has not closed
anything yet (R180). -/
def State.hardLockCancels (s : State) (d : Desk) : Bool :=
  match (s.stack d).executing with
  | some e => s.lockedGroup e.request.body && (match e.phase with
    | .step1 | .held _ => true
    | .frame => false
    | .inFlight => (s.requestedConn d).any fun c => !c.atLock
    | .recall i => (s.slot i).recallOpen)
  | none => false

/-- A HARD lock cancels the waiting request of a group in its set at one desk (R180). -/
def State.hardCancelWaiting (s : State) (d : Desk) : State :=
  match (s.stack d).waiting with
  | some r => if s.lockedGroup r.body then s.cancelWaiting d .roomLocked else s
  | none => s

/-- A HARD lock cancels the requests of the groups in its set at one desk (R180). -/
def State.hardCancel (s : State) (d : Desk) : State :=
  if !s.deskLive d then s
  else
    let s1 : State := s.hardCancelWaiting d
    let s2 : State := if s1.hardLockCancels d then (s1.abandonExecuting d).answerDesk d .cancelled .roomLocked [] else s1
    s2.promote d

/-- A restoration delay that expired under a TIERS lock begins a walk from the start once no such lock stands any more (R74,
R181). -/
def State.walkReleased (s : State) : State :=
  if s.expiredUnderLock && !s.lockHas (·.tiers) then s.beginWalk else s

/-- Groups that were locked and no longer are release their neighbours (R181).  Scans, a stopped walk and intake read the lock
as it stands; a walk that a delay under the lock has made due begins now, and idle release is tested now, in ascending source
order (log entry 43). -/
def State.lockReleased (s : State) (old : Option RoomLock) : State :=
  let s1 := s.walkReleased
  if (old.any fun l => l.sens.control) && !s1.lockHas (·.control) then allSources.foldl State.idleTest s1 else s1

/-- A sensitivity set of a LOCK (R179, R198). -/
def sensitivityOf (b : Byte) : Option Sensitivity :=
  if b = 0 ∨ 15 < b.toNat then none
  else some { connections := selects b 0, control := selects b 1, scans := selects b 2, tiers := selects b 3 }

/-- The manner a byte names (R198). -/
def mannerOf (b : Byte) : Option Manner := if b = 0 then some .soft else if b = 1 then some .hard else none

/-- LOCK with its arguments (R179, R180).  A replacing lock releases the groups it drops before a HARD one makes its
cancellations (log entry 44). -/
def State.lockRoom (s : State) (k : Sensitivity) (m : Manner) (duration : Nat) : State :=
  let n := clamp 0 3600 duration
  let due := if n = 0 then none else some (s.inSeconds n)
  let s1 := { s with roomLock := some ⟨k, m, due⟩ }.markRoom
  let s2 := s1.lockReleased s.roomLock
  let s3 := if m = .hard then allDesks.foldl State.hardCancel s2 else s2
  s3.configured Kind.lock (n ≠ duration) []

/-- LOCK (R179). -/
def execLock (payload : List Byte) (s : State) : Host.Outcome State Fault Refusal :=
  s.onCommand Kind.lock fun t =>
    match payload with
    | [set, manner, d0, d1] => match sensitivityOf set, mannerOf manner with
      | some k, some m => t.lockRoom k m (word16 d0 d1)
      | _, _ => t.refuse Kind.lock .badArgument
    | _ => t.refuse Kind.lock .badArgument

/-- The room lock ends (R181). -/
def State.endLock (s : State) : State := ({ s with roomLock := none }.markRoom).lockReleased s.roomLock

/-- UNLOCK (R181). -/
def execUnlock (payload : List Byte) (s : State) : Host.Outcome State Fault Refusal :=
  s.onCommand Kind.unlock fun t =>
    if !payload.isEmpty then t.refuse Kind.unlock .badArgument
    else if t.roomLock.isNone then t.refuse Kind.unlock .wrongState
    else t.endLock.done Kind.unlock []

/-- The duration timer of the room lock expires (R181). -/
def State.lockDurationExpiry (s : State) : State :=
  match s.roomLock with
  | some { sens := _, manner := _, due := some t } => (s.reach t).endLock
  | _ => s

/-- DURATION_TIMER_EXPIRY (R181). -/
def execDurationTimerExpiry (s : State) : Host.Outcome State Fault Refusal := s.take State.lockDurationExpiry

/-! ## RESTART (R182) -/

/-- RESTART (R182): answered DONE, then start-up, in which the RESTART stays in progress.  The sequence stands before its last
step until nothing is left to be taken (`State.tick`; log entry 42). -/
def execRestart (payload : List Byte) (s : State) : Host.Outcome State Fault Refusal :=
  s.onQuery Kind.restart fun t =>
    if payload.isEmpty then { (t.done Kind.restart []).beginStartUp with command := some .restart }
    else t.refuse Kind.restart .badArgument

/-! ## Timers of the room -/

/-- The restoration delay expires, and a walk begins (R72). -/
def State.restorationExpiry (s : State) : State :=
  match s.restoration with
  | .delaying due => (s.reach due).beginWalk
  | _ => s

/-- RESTORATION_DELAY_EXPIRY (R72). -/
def execRestorationDelayExpiry (s : State) : Host.Outcome State Fault Refusal := s.take State.restorationExpiry

/-- The moment at which a source's holder has been idle for the control timeout (R96). -/
def State.idleMoment (s : State) (x : Source) : Option Time :=
  match s.control x with
  | .held _ _ t =>
    let n := (s.sourceSettings x).controlTimeout
    if n = 0 then none else some (t + 1000 * n)
  | _ => none

/-- The holder's idleness reaches the control timeout (R97). -/
def State.controlTimeout (s : State) (x : Source) : State :=
  match s.idleMoment x with
  | some due => (s.reach due).idleTest x
  | none => s

/-- CONTROL_TIMEOUT_REACHED (R97). -/
def execControlTimeoutReached (x : Source) (s : State) : Host.Outcome State Fault Refusal :=
  s.take fun t => t.controlTimeout x

end Sys2Proof.Machine
end

