-- ==== Sys2Proof/Machine/Staging.lean ====
section
/-!
DEFINITION. The staging commands and the store commands of the supervisory line (R153, R154, R156, R160, R162, R176, R186 to
R189).
-/

namespace Sys2Proof.Machine

/-! ## Staging commands (R176) -/

/-- A command whose payload is a slot alone. -/
def State.onSlot (s : State) (kind : Byte) (payload : List Byte) (f : State → SlotIx → State) : State :=
  match payload with
  | [n] => match Byte.within 4 n with
    | some i => f s i
    | none => s.refuse kind .badArgument
  | _ => s.refuse kind .badArgument

/-- STAGE_LOAD's payload: the slot's byte and the entries, none where the length or a number is wrong (R152, R197). -/
def stageLoadOf : List Byte → Option (Byte × List StageEntry)
  | slot :: n :: rest =>
    match (byteEntries rest).bind (readAll layoutEntry) with
    | some es => if es.length = n.toNat ∧ 1 ≤ es.length ∧ es.length ≤ 16 then some (slot, es) else none
    | none => none
  | _ => none

/-- A list is loaded into a slot that is EMPTY or LOADED with no arm in progress (R153). -/
def State.loadSlot (s : State) (kind : Byte) (i : SlotIx) (es : List StageEntry) : State :=
  if (s.slot i).idle then
    let k := Slot.loaded es .supervisor
    (s.setSlot i k).done kind [byte k.entries.length]
  else s.refuse kind .wrongState

/-- STAGE_LOAD (R153). -/
def execStageLoad (payload : List Byte) (s : State) : Host.Outcome State Fault Refusal :=
  s.onCommand Kind.stageLoad fun t =>
    match stageLoadOf payload with
    | some (n, es) => match Byte.within 4 n with
      | some i => t.loadSlot Kind.stageLoad i es
      | none => t.refuse Kind.stageLoad .badArgument
    | none => t.refuse Kind.stageLoad .badArgument

/-- STAGE_CLEAR (R154). -/
def execStageClear (payload : List Byte) (s : State) : Host.Outcome State Fault Refusal :=
  s.onCommand Kind.stageClear fun t => t.onSlot Kind.stageClear payload fun u i =>
    if (u.slot i).idle then (u.setSlot i Slot.fresh).done Kind.stageClear [] else u.refuse Kind.stageClear .wrongState

/-- ARM (R155, R156). -/
def execArm (payload : List Byte) (s : State) : Host.Outcome State Fault Refusal :=
  s.onCommand Kind.arm fun t => t.onSlot Kind.arm payload fun u i =>
    if (u.slot i).state = .loaded ∧ (u.slot i).arming = none then
      { u with command := some (.arm i) }.startArming i .supervisor
    else u.refuse Kind.arm .wrongState

/-- COMMIT (R162): the arm hold timer stops; the commit begins, or waits for a revalidation in flight. -/
def execCommit (payload : List Byte) (s : State) : Host.Outcome State Fault Refusal :=
  s.onCommand Kind.commit fun t => t.onSlot Kind.commit payload fun u i =>
    if (u.slot i).state = .armed then
      let u1 := { u with command := some (.commit i) }
      if u1.revalidating i then u1.setSlot i { u1.slot i with holdTimer := none, commitDue := true }
      else u1.beginCommit i
    else u.refuse Kind.commit .wrongState

/-- DISARM (R160). -/
def execDisarm (payload : List Byte) (s : State) : Host.Outcome State Fault Refusal :=
  s.onCommand Kind.disarm fun t => t.onSlot Kind.disarm payload fun u i =>
    if (u.slot i).state = .armed then (u.disarm i none).done Kind.disarm [] else u.refuse Kind.disarm .wrongState

/-- An arm hold timer expires (R160). -/
def State.holdExpiry (s : State) (i : SlotIx) : State :=
  match (s.slot i).holdTimer with
  | some due =>
    if (s.slot i).state = .armed then (s.reach due).disarm i (some (0, .holdExpired)) else s
  | none => s

/-- ARM_HOLD_TIMER_EXPIRY (R160). -/
def execArmHoldTimerExpiry (i : SlotIx) (s : State) : Host.Outcome State Fault Refusal :=
  s.take fun t => t.holdExpiry i

/-! ## Store commands (R186 to R189) -/

/-- A store operation begins under its command. -/
def State.startStore (s : State) (op : StoreOp) (c : Command) : State :=
  { s with store := { s.store with op := some op }, command := some c }

/-- PRESET_TO_STAGE with its numbers in range (R188). -/
def State.presetToStage (s : State) (p : PresetIx) (i : SlotIx) : State :=
  if !(s.slot i).idle then s.refuse Kind.presetToStage .wrongState
  else
    let s1 := s.readPreset p
    match s1.store.presets[p] with
    | .corrupt => s1.refuse Kind.presetToStage .presetCorrupt
    | .blank => s1.refuse Kind.presetToStage .badArgument
    | .valid es _ => s1.loadSlot Kind.presetToStage i es

/-- PRESET_TO_STAGE (R188). -/
def execPresetToStage (payload : List Byte) (s : State) : Host.Outcome State Fault Refusal :=
  s.onCommand Kind.presetToStage fun t =>
    match payload with
    | [p, n] => match Byte.within 32 p, Byte.within 4 n with
      | some preset, some i => t.presetToStage preset i
      | _, _ => t.refuse Kind.presetToStage .badArgument
    | _ => t.refuse Kind.presetToStage .badArgument

/-- A slot that STAGE_TO_PRESET takes entries from (R187). -/
def Slot.writable (k : Slot) : Bool :=
  (k.state = .loaded ∨ k.state = .armed) && k.arming.isNone && k.owner = some .supervisor

/-- STAGE_TO_PRESET with its numbers in range (R187). -/
def State.stageToPreset (s : State) (i : SlotIx) (p : PresetIx) : State :=
  if !(s.slot i).writable then s.refuse Kind.stageToPreset .wrongState
  else if s.store.presets[p] ≠ .blank then s.refuse Kind.stageToPreset .notBlank
  else s.startStore (.writePreset p ((s.slot i).entries.map (·.entry))) .stageToPreset

/-- STAGE_TO_PRESET (R187). -/
def execStageToPreset (payload : List Byte) (s : State) : Host.Outcome State Fault Refusal :=
  s.onCommand Kind.stageToPreset fun t =>
    match payload with
    | [n, p] => match Byte.within 4 n, Byte.within 32 p with
      | some i, some preset => t.stageToPreset i preset
      | _, _ => t.refuse Kind.stageToPreset .badArgument
    | _ => t.refuse Kind.stageToPreset .badArgument

/-- The store operation under way ends. -/
def State.endStore (s : State) : State := { s with store := { s.store with op := none } }

/-- A preset write ends with its read-back (R187).  R195 gives a FAILED answer an index or step that R187 has none of: DESIGN
CHOICE, VERIFY_FAILED carries no data (log entry 54). -/
def State.presetWritten (s : State) (matched : Bool) : State :=
  match s.store.op with
  | some (.writePreset p es) =>
    if matched then
      ((s.endStore.setPreset p (.valid es (some (checkValue (presetImage es))))).answerCommand .done .noDetail
        [byte es.length])
    else (s.endStore.setPreset p .corrupt).answerCommand .failed .verifyFailed []
  | _ => s

/-- PRESET_WRITE_COMPLETE (R187). -/
def execPresetWriteComplete (matched : Bool) (s : State) : Host.Outcome State Fault Refusal :=
  s.take fun t => t.presetWritten matched

/-- SAVE_SETTINGS (R186): the stored check value is invalidated as the write begins. -/
def execSaveSettings (payload : List Byte) (s : State) : Host.Outcome State Fault Refusal :=
  s.onCommand Kind.saveSettings fun t =>
    if payload.isEmpty then
      let u := t.startStore (.saveSettings t.settings) .saveSettings
      { u with store := { u.store with regionCheck := none } }
    else t.refuse Kind.saveSettings .badArgument

/-- A settings save ends with its read-back (R186).  As for a preset write, VERIFY_FAILED carries no data: DESIGN CHOICE (log
entry 54). -/
def State.settingsSaved (s : State) (matched : Bool) : State :=
  match s.store.op with
  | some (.saveSettings k) =>
    let s1 := s.endStore
    if matched then
      ({ s1 with store := { s1.store with
          region := k, regionCheck := some (checkValue k.image), settingsGood := true } }.markStore).answerCommand
        .done .noDetail []
    else
      ({ s1 with store := { s1.store with regionCheck := none, settingsGood := false } }.markStore).answerCommand
        .failed .verifyFailed []
  | _ => s

/-- SETTINGS_SAVE_COMPLETE (R186). -/
def execSettingsSaveComplete (matched : Bool) (s : State) : Host.Outcome State Fault Refusal :=
  s.take fun t => t.settingsSaved matched

/-- A preset's stored check value is invalidated (R189). -/
def Preset.invalidated : Preset → Preset
  | .valid es _ => .valid es none
  | p => p

/-- PRESET_ERASE (R189). -/
def execPresetErase (payload : List Byte) (s : State) : Host.Outcome State Fault Refusal :=
  s.onCommand Kind.presetErase fun t =>
    match payload with
    | [n] => match Byte.within 32 n with
      | some p =>
        let u := t.startStore (.erasePreset p) .presetErase
        { u with store := { u.store with presets := u.store.presets.set p (u.store.presets[p]).invalidated } }
      | none => t.refuse Kind.presetErase .badArgument
    | _ => t.refuse Kind.presetErase .badArgument

/-- A preset erase completes (R189). -/
def State.presetErased (s : State) : State :=
  match s.store.op with
  | some (.erasePreset p) =>
    let s1 := s.endStore
    (if s1.store.presets[p] = .blank then s1 else s1.setPreset p .blank).answerCommand .done .noDetail []
  | _ => s

/-- PRESET_ERASE_COMPLETE (R189). -/
def execPresetEraseComplete (s : State) : Host.Outcome State Fault Refusal := s.take State.presetErased

/-- The presets of a range, in order, that are not BLANK. -/
def State.notBlank (s : State) (first count : Nat) : List PresetIx :=
  (List.finRange 32).filter fun p => first ≤ p.val && p.val < first + count && s.store.presets[p] ≠ .blank

/-- PRESET_BLANK (R189): yes or no, and the number of the first preset that is not BLANK, for yes an
absent field (R199): DESIGN CHOICE (log entry 10). -/
def execPresetBlank (payload : List Byte) (s : State) : Host.Outcome State Fault Refusal :=
  s.onQuery Kind.presetBlank fun t =>
    match payload with
    | [f, n] =>
      let first := f.toNat
      let count := n.toNat
      if first < 32 ∧ 1 ≤ count ∧ count ≤ 32 - first then
        match t.notBlank first count with
        | [] => t.done Kind.presetBlank [flag true, absentByte]
        | p :: _ => t.done Kind.presetBlank [flag false, byte p]
      else t.refuse Kind.presetBlank .badArgument
    | _ => t.refuse Kind.presetBlank .badArgument

/-- A preset is VALID. -/
def Preset.isValid : Preset → Bool
  | .valid _ _ => true
  | _ => false

/-- STORE_CHECK with its effects (R189). -/
def State.storeCheck (s : State) : State :=
  let presets := s.store.presets.map Preset.checked
  let good := s.store.regionMatches
  let s1 := { s with store := { s.store with presets := presets, settingsGood := good } }
  let s2 := if presets = s.store.presets then s1 else s1.markStore
  let s3 := if good then s2 else s2.markSettingsFault
  s3.done Kind.storeCheck [byte (presets.toList.countP Preset.isValid), byte (presets.toList.countP (· = .corrupt)),
    if good then 0 else 1]

/-- STORE_CHECK (R189). -/
def execStoreCheck (payload : List Byte) (s : State) : Host.Outcome State Fault Refusal :=
  s.onQuery Kind.storeCheck fun t => if payload.isEmpty then t.storeCheck else t.refuse Kind.storeCheck .badArgument

end Sys2Proof.Machine
end

