-- ==== Sys2Proof/Machine/Lines.lean ====
section
/-!
DEFINITION. Bytes that reach a receiver one by one (R193): a frame that they complete is handed to its line's interface and
taken there as the command it is (R194); bytes that complete none leave the receiver where they broke off.
-/

namespace Sys2Proof.Machine

/-! ## Handing an accepted frame on (R194, section 11.2) -/

/-- The effect of an accepted frame on a source link, by its kind. -/
def handSource (x : Source) (kind : Byte) (payload : List Byte) (s : State) :
    Host.Outcome State Fault Refusal :=
  if kind = Kind.descriptor then execSourceDescriptor x payload s
  else if kind = Kind.heartbeat then execSourceHeartbeat x payload s
  else if kind = Kind.headFormat then execHeadFormat x payload s
  else if kind = Kind.tierAck then execTierAck x payload s
  else if kind = Kind.ledState then execLedState x payload s
  else execSourceUnknownKind x kind payload s

/-- The effect of an accepted frame on a desk link, by its kind. -/
def handDesk (d : Desk) (kind : Byte) (payload : List Byte) (s : State) :
    Host.Outcome State Fault Refusal :=
  if kind = Kind.descriptor then execDeskDescriptor d payload s
  else if kind = Kind.heartbeat then execDeskHeartbeat d payload s
  else if kind = Kind.locked then execLocked d payload s
  else if kind = Kind.unlocked then execUnlocked d payload s
  else if kind = Kind.keys then execKeys d payload s
  else if kind = Kind.pointer then execPointer d payload s
  else if kind = Kind.connect then execConnect d payload s
  else if kind = Kind.disconnect then execDisconnect d payload s
  else if kind = Kind.scan then execScan d payload s
  else if kind = Kind.recallPreset then execRecall d payload s
  else if kind = Kind.take then execTake d payload s
  else if kind = Kind.share then execShare d payload s
  else if kind = Kind.release then execRelease d payload s
  else if kind = Kind.withdraw then execWithdraw d payload s
  else if kind = Kind.noticeAck then execNoticeAck d payload s
  else if kind = Kind.queryScreen then execQueryScreen d payload s
  else if kind = Kind.querySource then execQuerySource d payload s
  else if kind = Kind.queryDesk then execQueryDesk d payload s
  else execDeskUnknownKind d kind payload s

/-- The effect of an accepted frame on the supervisory line with no command in progress, by its kind. -/
def handSupervisory (kind : Byte) (payload : List Byte) (s : State) :
    Host.Outcome State Fault Refusal :=
  if kind = Kind.ping then execPing payload s
  else if kind = Kind.version then execVersion payload s
  else if kind = Kind.setDesk then execSetDesk payload s
  else if kind = Kind.setSource then execSetSource payload s
  else if kind = Kind.setRights then execSetRights payload s
  else if kind = Kind.setRoom then execSetRoom payload s
  else if kind = Kind.forceConnect then execForceConnect payload s
  else if kind = Kind.forceDisconnect then execForceDisconnect payload s
  else if kind = Kind.forceRelease then execForceRelease payload s
  else if kind = Kind.portReset then execPortReset payload s
  else if kind = Kind.stageLoad then execStageLoad payload s
  else if kind = Kind.stageClear then execStageClear payload s
  else if kind = Kind.arm then execArm payload s
  else if kind = Kind.commit then execCommit payload s
  else if kind = Kind.disarm then execDisarm payload s
  else if kind = Kind.presetToStage then execPresetToStage payload s
  else if kind = Kind.stageToPreset then execStageToPreset payload s
  else if kind = Kind.saveSettings then execSaveSettings payload s
  else if kind = Kind.presetErase then execPresetErase payload s
  else if kind = Kind.presetBlank then execPresetBlank payload s
  else if kind = Kind.storeCheck then execStoreCheck payload s
  else if kind = Kind.listConnections then execListConnections payload s
  else if kind = Kind.deskStatus then execDeskStatus payload s
  else if kind = Kind.sourceStatus then execSourceStatus payload s
  else if kind = Kind.budget then execBudget payload s
  else if kind = Kind.changes then execChanges payload s
  else if kind = Kind.lock then execLock payload s
  else if kind = Kind.unlock then execUnlock payload s
  else if kind = Kind.restart then execRestart payload s
  else execSupervisoryUnknownKind kind payload s

/-- An accepted frame is handed to its line's interface (R168, R193, R194). -/
def handOn (l : Line) (kind : Byte) (payload : List Byte) (s : State) : Host.Outcome State Fault Refusal :=
  match l with
  | .source x => handSource x kind payload s
  | .desk d => handDesk d kind payload s
  | .supervisory => if s.command.isSome then execBusy kind payload s else handSupervisory kind payload s

/-! ## Bytes -/

/-- One byte reaches the receiver of a line (R193). -/
def State.takeByte (s : State) (l : Line) (b : Byte) : State :=
  let r := (s.receiver l).feed b
  let s1 := s.setReceiver l r.1
  match r.2 with
  | none => s1
  | some f => match handOn l f.1 f.2 s1 with
    | .next t => t
    | .fault _ => s1
    | .refused _ => s1

/-- Bytes reach the receiver of a line in turn. -/
def State.takeBytes (s : State) (l : Line) (bytes : List Byte) : State := bytes.foldl (fun t b => t.takeByte l b) s

/-- MALFORMED_FRAME (R193): bytes that are not one whole frame reach a receiver.  Those that belong to no acceptable frame are
dropped or discarded: nothing is answered and no timer restarts for them.  Those that complete a frame begun before are
accepted with it.  A last byte without its stop bit ends the frame it stands in; bytes that merely break off leave the receiver
within a frame. -/
def execMalformedFrame (l : Line) (bytes : List Byte) (broken : Bool) (s : State) : Host.Outcome State Fault Refusal :=
  s.ask fun t => if broken then (t.takeBytes l bytes.dropLast).setReceiver l .hunting else t.takeBytes l bytes

end Sys2Proof.Machine
end

