-- ==== Sys2Proof/Machine/Scans.lean ====
section
/-!
DEFINITION. The expiry of a scan's dwell and the step it may take (R144 to R146).
-/

namespace Sys2Proof.Machine

/-- The entries after the current one in list order, wrapping, up to the one before it, each with its index from 1 (R144). -/
def Scan.later (k : Scan) : List (Nat × HeadId) :=
  let numbered := (List.range k.list.length).zip k.list |>.map fun p => (p.1 + 1, p.2)
  (numbered.filter fun p => k.index < p.1) ++ (numbered.filter fun p => p.1 < k.index)

/-- An entry qualifies for a step (R144). -/
def State.qualifies (s : State) (c : Conn) (h : HeadId) : Bool :=
  s.headExists h && s.headActive h && h ≠ c.head && !s.privateToOther h.source c.desk
    && (s.right c.desk h.source).atLeast .view && s.fitsNow [⟨h, c.screen⟩]

/-- A step of a scan (R145): the record names the entry's head and enters SWITCHING at step 3. -/
def State.scanStep (s : State) (c : Conn) (k : Scan) (n : Nat) (h : HeadId) : State :=
  let s1 := (s.unlistReadmit c.handle).stopLockTimer c.screen
  let c1 : Conn := { c with
    head := h, state := .switching, step := some .switch, auto := some .step,
    scan := some { k with index := n, timer := .frozen 0 } }
  let s2 := s1.accounted fun t => (t.setConn c1).followBudget c.handle .switching
  let s3 := s2.postFor c.handle
  if h.source = c.source then s3 else s3.viewReport c.desk c.source

/-- The states from which an expiry searches for a step (R144, R146). -/
def RecordState.steps : RecordState → Bool
  | .live | .fault | .waiting | .suspended .budget | .suspended .privacy => true
  | .admitting | .switching | .suspended .deskAbsent => false

/-- The dwell of a scan expires (R144, R146). -/
def State.dwellExpires (s : State) (scr : ScreenId) : State :=
  match s.screenConn scr with
  | none => s
  | some c =>
    match c.scan with
    | none => s
    | some k =>
      match k.timer with
      | .running due =>
        let s1 := s.reach due
        if c.state.steps && !c.inFlight then
          match k.later.find? fun p => s1.qualifies c p.2 with
          | some p => s1.scanStep c k p.1 p.2
          | none => s1.restartDwell c.handle
        else s1.restartDwell c.handle
      | _ => s

/-- DWELL_EXPIRY (R144). -/
def execDwellExpiry (d : Desk) (k : ScreenIx) (s : State) : Host.Outcome State Fault Refusal :=
  s.take fun t => t.dwellExpires ⟨d, k⟩

end Sys2Proof.Machine
end

