-- ==== Sys2Proof/Machine/Dispatch.lean ====
section
/-!
DEFINITION. The meaning of each command: one arm per row of spec/opcode_table.json.
-/

namespace Sys2Proof.Machine

open Sys2Proof

def exec (i : Instr) (s : State) : Host.Outcome State Fault Refusal :=
  match i with
  | .powerUp => Sys2Proof.Machine.execPowerUp s
  | .malformedFrame line bytes broken => Sys2Proof.Machine.execMalformedFrame line bytes broken s
  | .interByteGapExpiry => Sys2Proof.Machine.execInterByteGapExpiry s
  | .sourceDescriptor src payload => Sys2Proof.Machine.execSourceDescriptor src payload s
  | .sourceHeartbeat src payload => Sys2Proof.Machine.execSourceHeartbeat src payload s
  | .headFormat src payload => Sys2Proof.Machine.execHeadFormat src payload s
  | .tierAck src payload => Sys2Proof.Machine.execTierAck src payload s
  | .ledState src payload => Sys2Proof.Machine.execLedState src payload s
  | .sourceUnknownKind src kind payload => Sys2Proof.Machine.execSourceUnknownKind src kind payload s
  | .sourceInitialTimerExpiry src => Sys2Proof.Machine.execSourceInitialTimerExpiry src s
  | .sourceSilenceTimerExpiry src => Sys2Proof.Machine.execSourceSilenceTimerExpiry src s
  | .sourceLinkLoss src => Sys2Proof.Machine.execSourceLinkLoss src s
  | .settleTimerExpiry src head => Sys2Proof.Machine.execSettleTimerExpiry src head s
  | .tierChangeTimerExpiry src head => Sys2Proof.Machine.execTierChangeTimerExpiry src head s
  | .transmitterComplete src => Sys2Proof.Machine.execTransmitterComplete src s
  | .deskDescriptor desk payload => Sys2Proof.Machine.execDeskDescriptor desk payload s
  | .deskHeartbeat desk payload => Sys2Proof.Machine.execDeskHeartbeat desk payload s
  | .locked desk payload => Sys2Proof.Machine.execLocked desk payload s
  | .unlocked desk payload => Sys2Proof.Machine.execUnlocked desk payload s
  | .keys desk payload => Sys2Proof.Machine.execKeys desk payload s
  | .pointer desk payload => Sys2Proof.Machine.execPointer desk payload s
  | .connect desk payload => Sys2Proof.Machine.execConnect desk payload s
  | .disconnect desk payload => Sys2Proof.Machine.execDisconnect desk payload s
  | .scan desk payload => Sys2Proof.Machine.execScan desk payload s
  | .recall desk payload => Sys2Proof.Machine.execRecall desk payload s
  | .take desk payload => Sys2Proof.Machine.execTake desk payload s
  | .share desk payload => Sys2Proof.Machine.execShare desk payload s
  | .release desk payload => Sys2Proof.Machine.execRelease desk payload s
  | .withdraw desk payload => Sys2Proof.Machine.execWithdraw desk payload s
  | .noticeAck desk payload => Sys2Proof.Machine.execNoticeAck desk payload s
  | .queryScreen desk payload => Sys2Proof.Machine.execQueryScreen desk payload s
  | .querySource desk payload => Sys2Proof.Machine.execQuerySource desk payload s
  | .queryDesk desk payload => Sys2Proof.Machine.execQueryDesk desk payload s
  | .deskUnknownKind desk kind payload => Sys2Proof.Machine.execDeskUnknownKind desk kind payload s
  | .deskInitialTimerExpiry desk => Sys2Proof.Machine.execDeskInitialTimerExpiry desk s
  | .deskSilenceTimerExpiry desk => Sys2Proof.Machine.execDeskSilenceTimerExpiry desk s
  | .deskLinkLoss desk => Sys2Proof.Machine.execDeskLinkLoss desk s
  | .graceTimerExpiry desk => Sys2Proof.Machine.execGraceTimerExpiry desk s
  | .lockTimerExpiry desk screen => Sys2Proof.Machine.execLockTimerExpiry desk screen s
  | .houseFrameEvent => Sys2Proof.Machine.execHouseFrameEvent s
  | .controlTimeoutReached src => Sys2Proof.Machine.execControlTimeoutReached src s
  | .restorationDelayExpiry => Sys2Proof.Machine.execRestorationDelayExpiry s
  | .dwellExpiry desk screen => Sys2Proof.Machine.execDwellExpiry desk screen s
  | .armHoldTimerExpiry slot => Sys2Proof.Machine.execArmHoldTimerExpiry slot s
  | .ping payload => Sys2Proof.Machine.execPing payload s
  | .version payload => Sys2Proof.Machine.execVersion payload s
  | .busy kind payload => Sys2Proof.Machine.execBusy kind payload s
  | .supervisoryUnknownKind kind payload => Sys2Proof.Machine.execSupervisoryUnknownKind kind payload s
  | .setDesk payload => Sys2Proof.Machine.execSetDesk payload s
  | .setRights payload => Sys2Proof.Machine.execSetRights payload s
  | .setSource payload => Sys2Proof.Machine.execSetSource payload s
  | .setRoom payload => Sys2Proof.Machine.execSetRoom payload s
  | .forceConnect payload => Sys2Proof.Machine.execForceConnect payload s
  | .forceDisconnect payload => Sys2Proof.Machine.execForceDisconnect payload s
  | .forceRelease payload => Sys2Proof.Machine.execForceRelease payload s
  | .portReset payload => Sys2Proof.Machine.execPortReset payload s
  | .stageLoad payload => Sys2Proof.Machine.execStageLoad payload s
  | .stageClear payload => Sys2Proof.Machine.execStageClear payload s
  | .arm payload => Sys2Proof.Machine.execArm payload s
  | .commit payload => Sys2Proof.Machine.execCommit payload s
  | .disarm payload => Sys2Proof.Machine.execDisarm payload s
  | .presetToStage payload => Sys2Proof.Machine.execPresetToStage payload s
  | .stageToPreset payload => Sys2Proof.Machine.execStageToPreset payload s
  | .presetWriteComplete matched => Sys2Proof.Machine.execPresetWriteComplete matched s
  | .saveSettings payload => Sys2Proof.Machine.execSaveSettings payload s
  | .settingsSaveComplete matched => Sys2Proof.Machine.execSettingsSaveComplete matched s
  | .presetErase payload => Sys2Proof.Machine.execPresetErase payload s
  | .presetEraseComplete => Sys2Proof.Machine.execPresetEraseComplete s
  | .presetBlank payload => Sys2Proof.Machine.execPresetBlank payload s
  | .storeCheck payload => Sys2Proof.Machine.execStoreCheck payload s
  | .listConnections payload => Sys2Proof.Machine.execListConnections payload s
  | .deskStatus payload => Sys2Proof.Machine.execDeskStatus payload s
  | .sourceStatus payload => Sys2Proof.Machine.execSourceStatus payload s
  | .budget payload => Sys2Proof.Machine.execBudget payload s
  | .changes payload => Sys2Proof.Machine.execChanges payload s
  | .lock payload => Sys2Proof.Machine.execLock payload s
  | .unlock payload => Sys2Proof.Machine.execUnlock payload s
  | .durationTimerExpiry => Sys2Proof.Machine.execDurationTimerExpiry s
  | .restart payload => Sys2Proof.Machine.execRestart payload s
  | .powerFail => Sys2Proof.Machine.execPowerFail s

end Sys2Proof.Machine
end

