-- ==== Sys2Proof/Machine/Tick.lean ====
section
/-!
DEFINITION. The passing of time on an empty queue (log entry 5): the first event that is due is put in the queue as its
command; with none due, the clock moves on by a millisecond.
-/

namespace Sys2Proof.Machine

/-- A timer that is due at the moment standing now yields its command. -/
def State.ifDue (s : State) (due : Option Time) (c : Instr) : List Instr :=
  match due with
  | some t => if t ≤ s.now then [c] else []
  | none => []

/-- The settle timer of a head (02, section 2.2). -/
def HeadRecord.settleTimer : HeadRecord → Option Time
  | .settling _ due => some due
  | _ => none

/-- The running dwell timer of the scan on a screen (R140). -/
def State.dwellTimer (s : State) (scr : ScreenId) : Option Time :=
  match (s.screenConn scr).bind (·.scan) with
  | some k => match k.timer with
    | .running due => some due
    | _ => none
  | none => none

/-- The restoration delay timer (R72). -/
def Restoration.delayTimer : Restoration → Option Time
  | .delaying due => some due
  | _ => none

/-- The timers of the source links and heads that are due. -/
def State.sourceEvents (s : State) : List Instr :=
  (allSources.flatMap fun x => s.ifDue (s.sourceLink x).initialTimer (.sourceInitialTimerExpiry x)
      ++ s.ifDue (s.sourceLink x).silenceTimer (.sourceSilenceTimerExpiry x))
  ++ (allHeads.flatMap fun h => s.ifDue (s.head h).settleTimer (.settleTimerExpiry h.source h.head)
      ++ s.ifDue ((s.tier h).change.map (·.due)) (.tierChangeTimerExpiry h.source h.head))

/-- The timers of the desk links and screens that are due. -/
def State.deskEvents (s : State) : List Instr :=
  (allDesks.flatMap fun d => s.ifDue (s.deskLink d).initialTimer (.deskInitialTimerExpiry d)
      ++ s.ifDue (s.deskLink d).silenceTimer (.deskSilenceTimerExpiry d)
      ++ s.ifDue (s.deskLink d).graceTimer (.graceTimerExpiry d))
  ++ (allScreens.flatMap fun scr => s.ifDue (s.position scr).lockTimer (.lockTimerExpiry scr.desk scr.screen)
      ++ s.ifDue (s.dwellTimer scr) (.dwellExpiry scr.desk scr.screen))

/-- The timers of the room that are due (the gap between two bytes only once it is longer than 100 ms, R193), and the sources
whose holder's idleness has reached the control timeout with a claim waiting (R97). -/
def State.roomEvents (s : State) : List Instr :=
  ((allSources.filter s.idleDue).map .controlTimeoutReached)
  ++ s.ifDue s.restoration.delayTimer .restorationDelayExpiry
  ++ (allSlots.flatMap fun i => s.ifDue (s.slot i).holdTimer (.armHoldTimerExpiry i))
  ++ s.ifDue (s.roomLock.bind (·.due)) .durationTimerExpiry
  ++ s.ifDue (s.gapTimer.map (· + 1)) .interByteGapExpiry

/-- The first event that is due, the house frame event after the timers. -/
def State.dueEvent (s : State) : Option Instr :=
  (s.sourceEvents ++ s.deskEvents ++ s.roomEvents).head?

/-- A millisecond passes; the house frame interval is counted in thousandths of the rate it was begun with (R9). -/
def State.passMillisecond (s : State) : State :=
  { s with now := s.now + 1, framePhase := s.framePhase + s.frameRate }

/-- What the module does with nothing taken (log entry 5): the start-up after a RESTART ends (log entry 42); an event that is due
comes to the front of the queue; else time passes.  Without power nothing happens. -/
def State.tick (s : State) : State :=
  if !s.powered then s
  else if s.starting then s.endStartUp
  else match s.dueEvent with
    | some c => { s with pending := [c] }
    | none =>
      if 1000 ≤ s.framePhase then { s with framePhase := s.framePhase - 1000, pending := [.houseFrameEvent] }
      else s.passMillisecond

end Sys2Proof.Machine
end

