-- ==== Sys2Proof/Machine/Step.lean ====
section
/-!
DEFINITION. One step of the module: it takes the command at the front of its queue; on an empty queue a millisecond passes.
-/

namespace Sys2Proof.Machine

/-- One step: the front command on the state with the queue's rest, or a tick of the clock (log entry 5). -/
def step (s : State) : Host.Outcome State Fault Refusal :=
  match s.pending with
  | c :: rest => exec c { s with pending := rest }
  | [] => .next s.tick

/-- The state with the command that a word of the table spells put at the front of its queue; the table gives no row bits,
so that no word spells one. -/
def State.withFetchWord (s : State) (nbits w : Nat) : State :=
  match decodeTableWord nbits w with
  | some c => { s with pending := c :: s.pending }
  | none => s

end Sys2Proof.Machine
end

