-- ==== Sys2Proof/Safety.lean ====
section
/-!
DEFINITION. What the claims about the module speak of: settings within their ranges, the capacities of its queues and lists,
what is kept of a state while work is carried out, and a room at rest.
-/

namespace Sys2Proof.Machine

/-! ## Settings within their ranges (R171 to R173) -/

/-- Rank 0 to 7, link timeout 1 to 30 s, grace 0 to 600 s (R171). -/
def DeskSettings.Legal (k : DeskSettings) : Prop := k.rank ≤ 7 ∧ 1 ≤ k.linkTimeout ∧ k.linkTimeout ≤ 30 ∧ k.grace ≤ 600

/-- Link timeout 1 to 30 s, preferred tier not above the tier limit, control timeout 0 or 5 to 3600 s, share interval 200 to
5000 ms (R172). -/
def SourceSettings.Legal (k : SourceSettings) : Prop :=
  1 ≤ k.linkTimeout ∧ k.linkTimeout ≤ 30 ∧ k.preferredTier ≤ k.tierLimit
    ∧ (k.controlTimeout = 0 ∨ 5 ≤ k.controlTimeout ∧ k.controlTimeout ≤ 3600)
    ∧ 200 ≤ k.shareInterval ∧ k.shareInterval ≤ 5000

/-- House rate 24 to 120 Hz, lock timeout 100 to 2000 ms, restoration delay 0 to 60 s, arm hold 10 to 300 s (R173). -/
def RoomSettings.Legal (k : RoomSettings) : Prop :=
  24 ≤ k.houseRate ∧ k.houseRate ≤ 120 ∧ 100 ≤ k.lockTimeout ∧ k.lockTimeout ≤ 2000 ∧ k.restorationDelay ≤ 60
    ∧ 10 ≤ k.armHold ∧ k.armHold ≤ 300

/-- Every setting is within its range. -/
def Settings.Legal (k : Settings) : Prop :=
  (∀ d : Desk, (k.desks[d]).Legal) ∧ (∀ x : Source, (k.sources[x]).Legal) ∧ k.room.Legal

/-- What a store operation will write into the settings region is legal. -/
def StoreOp.Legal : StoreOp → Prop
  | .saveSettings k => k.Legal
  | .writePreset _ _ => True
  | .erasePreset _ => True

/-- The working settings, the saved settings and the settings being saved are within their ranges. -/
def State.SettingsLegal (s : State) : Prop :=
  s.settings.Legal ∧ s.store.region.Legal ∧ ∀ op, s.store.op = some op → op.Legal

/-! ## Capacities (R1, R78, R108, R133) -/

/-- A movement lies within -2047 to +2047 and its wheel within -127 to +127 (R108). -/
def InputBody.Legal : InputBody → Prop
  | .pointer dx dy wheel _ => (-2047 ≤ dx ∧ dx ≤ 2047) ∧ (-2047 ≤ dy ∧ dy ≤ 2047) ∧ -127 ≤ wheel ∧ wheel ≤ 127
  | .keys _ _ => True
  | .releaseAll => True

/-- The law of an input queue (R108): it has at most 16 entries, with their movements in range; its deferred key slot is occupied
only while the queue holds 16 entries, and never by a POINTER. -/
structure InputPath.Bounded (p : InputPath) : Prop where
  queue : p.queue.length ≤ Config.inputQueueCapacity
  movements : ∀ e ∈ p.queue, e.body.Legal
  deferred : ∀ e ∈ p.deferred,
    p.queue.length = Config.inputQueueCapacity ∧ ∀ dx dy wheel buttons, e.body ≠ .pointer dx dy wheel buttons

/-- Every input queue keeps its law, no claim queue has more than 4 claims, no notice list more than 4 notices; no two records of
the Connection Table have one handle. -/
structure State.Bounded (s : State) : Prop where
  inputs : ∀ x : Source, (s.input x).Bounded
  claims : ∀ x : Source, (s.claims x).length ≤ Config.claimQueueCapacity
  notices : ∀ d : Desk, (s.noticeList d).length ≤ Config.noticeCapacity
  handles : s.conns.Pairwise fun a b => a.handle < b.handle

/-! ## Marks -/

/-- Every mark that is set in one change set is set in another. -/
structure Marks.Within (a b : Marks) : Prop where
  desks : ∀ d : Desk, a.desks[d] = true → b.desks[d] = true
  sources : ∀ x : Source, a.sources[x] = true → b.sources[x] = true
  slots : ∀ i : SlotIx, a.slots[i] = true → b.slots[i] = true
  room : a.room = true → b.room = true
  store : a.store = true → b.store = true
  settingsFault : a.settingsFault = true → b.settingsFault = true

/-! ## Lines -/

/-- A source link after a valid frame: it counts as a frame since the descriptor in INITIAL (R37), and restarts the silence
timer, for the moment given, in UP (R38). -/
def SourceLink.heard (l : SourceLink) (silence : Time) : SourceLink :=
  match l.link with
  | .down => l
  | .initial => { l with frameSince := true }
  | .up => { l with silenceTimer := some silence }

/-- A desk link after a valid frame (R119, R120). -/
def DeskLink.heard (l : DeskLink) (silence : Time) : DeskLink :=
  match l.link with
  | .down => l
  | .lost => l
  | .initial => { l with frameSince := true }
  | .up => { l with silenceTimer := some silence }

/-- The state after a valid frame of a source unit, but for what the frame does (R37, R38, R193). -/
def State.heardSource (s : State) (x : Source) : State :=
  { s with
    sourceReceivers := s.sourceReceivers.set x .hunting
    sourceLinks := s.sourceLinks.set x ((s.sourceLinks[x]).heard (s.now + 1000 * (s.settings.sources[x]).linkTimeout)) }

/-- The state after a valid frame of a desk unit, but for what the frame does (R119, R120, R193). -/
def State.heardDesk (s : State) (d : Desk) : State :=
  { s with
    deskReceivers := s.deskReceivers.set d .hunting
    deskLinks := s.deskLinks.set d ((s.deskLinks[d]).heard (s.now + 1000 * (s.settings.desks[d]).linkTimeout)) }

/-- The state after a frame on the supervisory line, but for what the frame does (R193). -/
def State.heardSupervisor (s : State) : State := { s with supervisoryReceiver := .hunting, gapTimer := none }

/-- The state with one response more on the supervisory line (R169). -/
def State.answered (s : State) (kind : Byte) (o : ResponseOutcome) (d : Detail) (data : List Byte) : State :=
  { s with sent := s.sent ++ [.supervisory ⟨o, kind, d, data⟩] }

/-- What no event on a line, timer or request changes: power, settings, room lock, saved settings, the queue of commands. -/
structure SameSetup (s t : State) : Prop where
  powered : t.powered = s.powered
  settings : t.settings = s.settings
  roomLock : t.roomLock = s.roomLock
  region : t.store.region = s.store.region
  regionCheck : t.store.regionCheck = s.store.regionCheck
  settingsGood : t.store.settingsGood = s.store.settingsGood
  op : t.store.op = s.store.op
  pending : t.pending = s.pending

/-- The configuration commands and start-up: what may change the settings (R170, R190).  Bytes on the supervisory line may
complete any frame of it. -/
def setsSettings : Instr → Bool
  | .setDesk _ | .setRights _ | .setSource _ | .setRoom _ | .powerUp | .restart _ | .malformedFrame .supervisory _ _ => true
  | _ => false

/-- LOCK, UNLOCK, the expiry of the duration timer and start-up: what may change the room lock (R179, R181). -/
def setsRoomLock : Instr → Bool
  | .lock _ | .unlock _ | .durationTimerExpiry | .powerUp | .restart _ | .malformedFrame .supervisory _ _ => true
  | _ => false

/-- CHANGES and start-up: what may clear a mark (R178). -/
def clearsMarks : Instr → Bool
  | .changes _ | .powerUp | .restart _ | .malformedFrame .supervisory _ _ => true
  | _ => false

/-- The supervisory commands that leave no work: the queries, CHANGES, PRESET_BLANK, STORE_CHECK and RESTART. -/
def leavesNoWork : Instr → Bool
  | .presetBlank _ | .storeCheck _ | .listConnections _ | .deskStatus _ | .sourceStatus _ | .budget _ | .changes _
  | .restart _ => true
  | _ => false

/-- A frame answered BUSY, for a command in progress (R168). -/
def isBusy : Instr → Bool
  | .busy _ _ => true
  | _ => false

/-- The commands that concern the link of a desk: its unit's frames, its timers, its loss (Chapter 6), a PORT_RESET, and
start-up. -/
def movesDesk (d : Desk) : Instr → Bool
  | .deskDescriptor e _ | .deskHeartbeat e _ | .locked e _ | .unlocked e _ | .keys e _ | .pointer e _ | .connect e _
  | .disconnect e _ | .scan e _ | .recall e _ | .take e _ | .share e _ | .release e _ | .withdraw e _ | .noticeAck e _
  | .queryScreen e _ | .querySource e _ | .queryDesk e _ | .deskUnknownKind e _ _ | .deskInitialTimerExpiry e
  | .deskSilenceTimerExpiry e | .deskLinkLoss e | .graceTimerExpiry e | .malformedFrame (.desk e) _ _ => e = d
  | .malformedFrame .supervisory _ _ => true
  | .portReset p => p.head? = some 0 && p[1]? = some (BitVec.ofNat 8 d.val)
  | .powerUp | .restart _ => true
  | _ => false

/-- The commands that concern the link of a source and its heads: its unit's frames, its timers, its loss (Chapter 2), a
PORT_RESET, and start-up. -/
def movesSource (x : Source) : Instr → Bool
  | .sourceDescriptor y _ | .sourceHeartbeat y _ | .headFormat y _ | .tierAck y _ | .ledState y _
  | .sourceUnknownKind y _ _ | .sourceInitialTimerExpiry y | .sourceSilenceTimerExpiry y | .sourceLinkLoss y
  | .settleTimerExpiry y _ | .malformedFrame (.source y) _ _ => y = x
  | .malformedFrame .supervisory _ _ => true
  | .portReset p => p.head? = some 1 && p[1]? = some (BitVec.ofNat 8 x.val)
  | .powerUp | .restart _ => true
  | _ => false

/-- What a source's link is after it has gone DOWN, with a head count as given (R40): its heads ABSENT, its LED state absent, its
input queue, deferred key slot and transmitter empty (R113), its heads without raw charge, every other link as it was.  That the
TIER_SET frames waiting for the transmitter are dropped with it is the model's reading (log entry 29). -/
structure SourceGone (s t : State) (x : Source) (headCount : Nat) : Prop where
  links : t.sourceLinks = s.sourceLinks.set x { SourceLink.fresh with headCount := headCount }
  desks : t.deskLinks = s.deskLinks
  led : (t.input x).led = none
  queue : (t.input x).queue = [] ∧ (t.input x).deferred = none
  transmitter : (t.input x).sending = none ∧ (t.input x).tierSets = []
  raws : ∀ k, (t.tier ⟨x, k⟩).raw = none
  setup : SameSetup s t

/-! ## Records -/

/-- A content is due on a screen: it is pending, or nothing is and the map holds it (R6, R8). -/
def State.isDue (s : State) (scr : ScreenId) (c : Content) : Bool :=
  (s.position scr).pending = some c ∨ ((s.position scr).pending = none ∧ (s.position scr).shown = c)

/-- Claims in the order of a claim queue: rank descending, then arrival (R78). -/
def Claim.before (a b : Claim) : Prop := b.rank < a.rank ∨ (a.rank = b.rank ∧ a.stamp < b.stamp)

/-- What a record says of its screen and head: the fields that only its own events change (R1). -/
def Conn.core (c : Conn) : ScreenId × HeadId × RecordState × Origin × Option BringUpStep :=
  (c.screen, c.head, c.state, c.origin, c.step)

/-- Every record but that of one handle is as it was. -/
def SameRecordsBut (h : Handle) (s t : State) : Prop :=
  ∀ k, k ≠ h → (t.conn? k).map Conn.core = (s.conn? k).map Conn.core

/-! ## The laws of the tables (R1, R4, R5, R31, R78, R152, R168) -/

/-- An admission in flight is that of a record standing at step 2 which it places (R18), of a slot being armed (R156), or of an
ARMED slot (R161). -/
def State.owns (s : State) (a : Admission) : Bool :=
  match a.owner with
  | .record h => (s.conn? h).any fun c =>
      c.state = .admitting ∧ c.step = some .admission ∧ a.placements = [⟨c.head, c.screen⟩]
  | .arming i => (s.slot i).arming.isSome
  | .revalidation i => (s.slot i).state = .armed

/-- The command that a store operation carries out (R186, R187, R189). -/
def StoreOp.command : StoreOp → Command
  | .saveSettings _ => .saveSettings
  | .writePreset _ _ => .stageToPreset
  | .erasePreset _ => .presetErase

/-- The entries that a preset, or a store operation, holds. -/
def Preset.layout : Preset → List StageEntry
  | .valid es _ => es
  | .blank => []
  | .corrupt => []

/-- See `Preset.layout`. -/
def StoreOp.layout : StoreOp → List StageEntry
  | .writePreset _ es => es
  | .saveSettings _ => []
  | .erasePreset _ => []

/-- No two entries of a layout name one screen (R152). -/
def oneEach (es : List StageEntry) : Prop := (es.map (·.screen)).Nodup

/-- The laws that the tables of the module keep. -/
structure State.Lawful (s : State) : Prop where
  /-- the first law: two records on one screen are a record and its replacement (R1) -/
  firstLaw : ∀ a ∈ s.conns, ∀ b ∈ s.conns, a.screen = b.screen → a.handle ≠ b.handle →
    a.replaces = some b.handle ∨ b.replaces = some a.handle
  /-- what a replacement replaces is on its screen, replaces nothing, and has no request in flight (R21) -/
  replaced : ∀ r ∈ s.conns, ∀ h ∈ r.replaces, ∃ c ∈ s.conns,
    c.handle = h ∧ c.screen = r.screen ∧ c.replaces = none ∧ c.answerTo = none
  /-- a replacement holds its desk's transfer handle, every other record a resident one (R3, R4) -/
  handles : ∀ c ∈ s.conns, if c.replaces.isSome then c.handle = 64 + c.screen.desk else c.handle < 64
  /-- a replacement is a request's until its frame event: it has not come to step 4 and is not LIVE (R21, R22) -/
  replacement : ∀ r ∈ s.conns, r.replaces.isSome →
    r.answerTo.isSome ∧ r.step ≠ some .lock ∧ r.prior = none ∧ r.state ≠ .live
  /-- a reservation other than 0 stands in SWITCHING or LIVE alone (R5) -/
  reservations : ∀ c ∈ s.conns, c.reservation ≠ 0 → c.state = .switching ∨ c.state = .live
  /-- the law of privacy: the records of a source private to another desk are SUSPENDED (R31) -/
  privacy : ∀ c ∈ s.conns, s.privateToOther c.head.source c.screen.desk = true →
    c.state = .suspended .privacy ∨ c.state = .suspended .deskAbsent
  /-- a record that a desk request brings up is that of the executing request, which is of the connection group (R127) -/
  requests : ∀ c ∈ s.conns, c.answerTo = some .desk →
    (s.stack c.screen.desk).executing.any fun e => e.phase = .inFlight ∧ e.request.body.isConnection
  /-- an executing request of the control group is still to begin: it is answered as it begins (R129) -/
  control : ∀ d, ∀ e ∈ (s.stack d).executing, e.request.body.isConnection = false → e.phase = .step1
  /-- a record that a force brings up is that of the command in progress (R33) -/
  forces : ∀ c ∈ s.conns, c.answerTo = some .force → match s.command with
    | some (.forceConnect _ _ .inFlight) => True
    | _ => False
  /-- one request, and one force, brings up one record -/
  single : ∀ a ∈ s.conns, ∀ b ∈ s.conns, a.answerTo.isSome → a.answerTo = b.answerTo →
    (a.answerTo = some .desk → a.screen.desk = b.screen.desk) → a.handle = b.handle
  /-- where the restoration delay has expired under a TIERS lock, such a lock stands (R74) -/
  expired : s.expiredUnderLock = true → s.lockHas (·.tiers) = true
  /-- a desk that is DOWN or LOST has no request (R124) -/
  absent : ∀ d, (s.deskLink d).link.live = false → s.stack d = { executing := none, waiting := none }
  /-- an admission in flight is its owner's (R57) -/
  admissions : ∀ a ∈ s.admissions, s.owns a
  /-- a slot is armed from LOADED, and an ARM that arms it is in progress (R154) -/
  arming : ∀ i, (s.slot i).arming.isSome →
    (s.slot i).state = .loaded ∧ ((s.slot i).arming = some .supervisor → s.command = some (.arm i))
  /-- a COMMIT that waits for a revalidation is in progress (R162) -/
  committing : ∀ i, (s.slot i).commitDue = true → s.command = some (.commit i)
  /-- a slot that is not COMMITTING awaits no record (R165) -/
  awaited : ∀ i, (s.slot i).state ≠ .committing → (s.slot i).awaiting = []
  /-- the command of a store operation under way is in progress (R184) -/
  storing : ∀ op ∈ s.store.op, s.command = some op.command
  /-- slots, presets and what is being written name a screen once (R152) -/
  layouts : (∀ i, oneEach ((s.slot i).entries.map (·.entry))) ∧ (∀ p : PresetIx, oneEach (s.store.presets[p]).layout)
    ∧ ∀ op ∈ s.store.op, oneEach op.layout
  /-- claims stand in order, highest rank first and then by arrival, with no two of one arrival (R78) -/
  claims : ∀ x, (s.claims x).Pairwise fun a b => a.before b ∧ a.stamp ≠ b.stamp
  /-- no claim has an arrival later than the last (R78) -/
  arrivals : ∀ x, ∀ c ∈ s.claims x, c.stamp ≤ s.arrivals

/-- The laws that the Budget Unit keeps (Chapter 3). -/
structure State.Totals (s : State) : Prop where
  /-- every desk total is at or below 200 BU (R55) -/
  desks : ∀ d, s.deskTotal d ≤ 200
  /-- every source total is at or below 160 BU (R55) -/
  sources : ∀ x, s.sourceTotal x ≤ 160
  /-- a record in SWITCHING or LIVE reserves its head's charge, every other 0 (R5) -/
  reservations : ∀ c ∈ s.conns,
    c.reservation = if c.state = .switching ∨ c.state = .live then s.headCharge c.head else 0
  /-- the head of a record in ADMITTING, SWITCHING, LIVE or SUSPENDED(BUDGET) is ACTIVE (R5, R26) -/
  active : ∀ c ∈ s.conns,
    (c.state = .admitting ∨ c.state = .switching ∨ c.state = .live ∨ c.state = .suspended .budget) → s.headActive c.head = true
  /-- a charged entry is in ARMED or COMMITTING, and its head is ACTIVE (R156, R159) -/
  charged : ∀ i, ∀ e ∈ (s.slot i).entries, e.charged = true →
    ((s.slot i).state = .armed ∨ (s.slot i).state = .committing) ∧ e.entry.target.head?.any s.headActive
  /-- what an admission of a slot will charge is what it places (R63, R156, R161) -/
  placed : ∀ a ∈ s.admissions, ∀ i, (s.slot i).touched = false →
    (a.owner = .arming i → ∀ p ∈ placementsOf (s.slot i).entries, s.headActive p.head = true → p ∈ a.placements)
    ∧ (a.owner = .revalidation i → ∀ p ∈ a.placements, s.headActive p.head = true)
  /-- a change in flight is from the tier that stands (R52) -/
  changes : ∀ h, ∀ c ∈ (s.tier h).change, c.old = (s.tier h).tier
  /-- tiers, and the tiers that changes go to, lie between the preferred tier and the tier limit (R52, R58, R73) -/
  tiers : ∀ h, s.preferredTier h ≤ (s.tier h).tier ∧ (s.tier h).tier ≤ s.tierLimit h
    ∧ ∀ c ∈ (s.tier h).change, s.preferredTier h ≤ c.new ∧ c.new ≤ s.tierLimit h
  /-- a head that nothing carries or holds stands at its preferred tier with no change in flight (R69) -/
  atRest : ∀ h, s.carried h = false → s.holds h = false →
    (s.tier h).tier = s.preferredTier h ∧ (s.tier h).change = none

/-! ## A room at rest -/

/-- A staging slot that nothing is under way on: not arming, not committing, not to be validated again, and so awaiting no record. -/
def Slot.calm (k : Slot) : Bool :=
  k.arming.isNone && !k.touched && !k.commitDue && k.state ≠ .committing && k.awaiting.isEmpty

/-- A stack in which no request waits; its executing request, if it has one, is of the connection group and has a record in flight
or awaits the frame event. -/
def Stack.calm (k : Stack) : Bool :=
  k.waiting.isNone && match k.executing with
    | none => true
    | some e => e.request.body.isConnection ∧ (e.phase = .inFlight ∨ e.phase = .frame)

/-- No automatic work is under way, and nothing waits for its turn: no admission, re-admission, resumption or restoration walk,
no replacement, no report or LED state left to give, no slot under way, no request waiting.  A delay of 0 would begin a restoration walk at
each decrease of charge, so that the restoration delay is not 0. -/
def State.calm (s : State) : Bool :=
  s.powered && s.admissions.isEmpty && s.readmissions.isEmpty && s.reports.isEmpty && s.movedTargets.isEmpty
    && (match s.command with
      | none => true
      | some (.forceConnect _ _ .inFlight) => true
      | some (.forceDisconnect _ .frame) => true
      | _ => false)
    && s.resumption.list.isEmpty && !s.resumption.running && !s.resumption.due
    && (match s.restoration with
      | .walking _ => false
      | .idle | .delaying _ => true)
    && s.room.restorationDelay ≠ 0
    && (allSlots.all fun i => (s.slot i).calm) && (allDesks.all fun d => (s.stack d).calm)
    && s.conns.all fun c => c.auto.isNone && c.replaces.isNone

/-- A calm room in which no request, no command and no bring-up is in flight. -/
def State.atRest (s : State) : Bool :=
  s.calm && s.command.isNone && (allDesks.all fun d => (s.stack d).executing.isNone) && s.conns.all fun c => !c.inFlight

/-- A desk whose requests of the connection group (`c` true) or the control group are taken: its link is INITIAL or UP, no room
lock covers the group, and no blocking notice is listed (R128, R136). -/
def State.takesRequests (s : State) (d : Desk) (c : Bool) : Bool :=
  (s.deskLink d).link.live && !(s.lockHas fun k => if c then k.connections else k.control)
    && !(s.noticeList d).any (·.kind.blocking)

/-- A desk that holds, shares and claims no source but the one given. -/
def State.noRelationBut (s : State) (d : Desk) (x : Source) : Bool :=
  allSources.all fun y => y = x || (!(s.control y).drivers.contains d && !(s.claims y).any (·.desk = d))

/-- A calm room in which no screen scans: a taking then leaves no work at all. -/
def State.quiet (s : State) : Prop := s.calm = true ∧ ∀ c ∈ s.conns, c.scan = none

/-- A state but for one record. -/
def State.without (s : State) (h : Handle) : State := { s with conns := s.conns.filter (·.handle ≠ h) }

/-! ## Forms of the statements -/

/-- A command answers a next state with a property. -/
def Runs (c : Instr) (s : State) (p : State → Prop) : Prop := ∃ t, exec c s = .next t ∧ p t

/-- A step answers a next state with a property. -/
def Steps (s : State) (p : State → Prop) : Prop := ∃ t, step s = .next t ∧ p t

/-- A state with one response more toward a desk unit (R195). -/
def State.responded (s : State) (d : Desk) (number kind : Byte) (o : ResponseOutcome) (detail : Detail)
    (data : List Byte) : State :=
  { s with sent := s.sent ++ [.deskResponse d number ⟨o, kind, detail, data⟩] }

/-- A desk whose requests of a group are taken and whose stack is empty, so that its next request begins at once (R129). -/
def State.canAsk (s : State) (d : Desk) (connection : Bool) : Bool :=
  s.takesRequests d connection && (s.stack d).executing.isNone && (s.stack d).waiting.isNone

/-- What a HEAD_FORMAT makes of a head's record at a moment (the table of 02, section 2.3). -/
def HeadRecord.announced (r : HeadRecord) (f : Option Format) (now : Time) : HeadRecord :=
  match r, f with
  | .absent, none => .absent
  | .absent, some g => .settling g (now + 300)
  | .settling _ _, none => .absent
  | .settling _ _, some g => .settling g (now + 300)
  | .active _, none => .absent
  | .active g0, some g => if g = g0 then .active g0 else .settling g (now + 300)
  | .unsupported _, none => .absent
  | .unsupported g0, some g => if g = g0 then .unsupported g0 else .settling g (now + 300)

/-- The card of a record whose head is not ACTIVE (R26). -/
def HeadRecord.card : HeadRecord → Card
  | .unsupported _ => .outOfRange
  | .absent => .noSignal
  | .settling _ _ => .noSignal
  | .active _ => .noSignal

/-- The records of heads that leave ACTIVE and that R26 moves are WAITING. -/
def MovedToWaiting (s t : State) (left : HeadId → Prop) : Prop :=
  ∀ c ∈ s.conns, left c.head → s.headActive c.head = true →
    (c.state = .live ∨ c.state = .switching ∨ c.state = .admitting ∨ c.state = .suspended .budget) →
    (t.conn? c.handle).map (·.state) = some .waiting

/-- The request that a frame of right length of the connection or control group carries, with its desk (R196). -/
def stackedRequest : Instr → Option (Desk × Request)
  | .connect d p => (connectOf p).map fun r => (d, r)
  | .disconnect d p => (disconnectOf p).map fun r => (d, r)
  | .scan d p => (scanOf p).map fun r => (d, r)
  | .recall d p => (recallOf p).map fun r => (d, r)
  | .take d p => (takeOf p).map fun r => (d, r)
  | .share d p => (shareOf p).map fun r => (d, r)
  | .release d p => (releaseOf p).map fun r => (d, r)
  | .withdraw d p => (withdrawOf p).map fun r => (d, r)
  | _ => none

/-- An entry of a slot passes every check of its validation (R155). -/
def State.entryPasses (s : State) (owner : Owner) (e : StageEntry) : Bool :=
  (s.deskLink e.screen.desk).link.live && s.screenExists e.screen && (s.markedBy e.screen).isNone &&
    match e.target with
    | .blank => true
    | .head h => s.headExists h && !s.privateToOther h.source e.screen.desk &&
        match owner with
        | .supervisor => true
        | .desk d => (s.right d h.source).atLeast .view

/-- The head of an entry is ACTIVE: its admission places it, and charges it once granted (R63, R156). -/
def State.entryActive (s : State) (e : StageEntry) : Bool := e.target.head?.any s.headActive

/-- An entry of a slot passes every check of its validation, and takes no bandwidth: its head is not ACTIVE, or its target is
BLANK (R155, R156). -/
def State.entryReady (s : State) (owner : Owner) (e : StageEntry) : Bool := s.entryPasses owner e && !s.entryActive e

/-- An entry's screen is on a desk whose total overflows with placements, or its head on such a source (R63). -/
def State.entryOverflows (s : State) (pl : List Placement) (e : StageEntry) : Bool :=
  (s.overDesks [] pl).contains e.screen.desk || e.target.head?.any fun h => (s.overSources [] pl).contains h.source

/-- The movement, wheel and buttons of the pointer entry of a desk at the tail of a queue, if one stands there (R109). -/
def InputPath.pointerTail (p : InputPath) (d : Desk) : Option (Int × Int × Int × BitVec 5) :=
  match p.queue.getLast? with
  | some ⟨o, .pointer x y w b⟩ => if o = d then some (x, y, w, b) else none
  | _ => none

/-- An input path given TIER_SET frames in order: the first waiting one starts on a free transmitter, the others wait behind it
(R112). -/
def InputPath.withTierSets (q : InputPath) (l : List (HeadIx × Tier)) : InputPath :=
  match l, q.sending, q.tierSets ++ l with
  | [], _, _ => q
  | _ :: _, none, (k, u) :: rest => { q with sending := some (.tierSet k u), tierSets := rest }
  | _ :: _, _, waiting => { q with tierSets := waiting }

/-- The content due for an entry of a live desk whose source is private to no other: the route of an ACTIVE head, else the card
(R162). -/
def State.readyContent (s : State) (e : StageEntry) : Content :=
  match e.target with
  | .blank => .card .blank
  | .head h => if s.headActive h then .route h else .card (s.head h).card

/-- A state with the scans of its records taken away. -/
def State.unscanned (s : State) (p : Conn → Bool) : State :=
  { s with conns := s.conns.map fun c => if p c then { c with scan := none } else c }

end Sys2Proof.Machine
end

