-- ==== Sys2Proof/WellFormed.lean ====
section
/-!
DEFINITION. Which commands can occur: a frame's payload has at most 248 bytes (R192), an unknown kind is none of its line's
(section 11.2), and the bytes of a MALFORMED_FRAME are at least one and spell no acceptable frame (R193).
-/

namespace Sys2Proof

open Machine

/-- The kinds of a source link toward the module (section 11.2). -/
def sourceKinds : List Byte := [0x01, 0x02, 0x07, 0x08, 0x09]

/-- The kinds of a desk link toward the module (section 11.2). -/
def deskKinds : List Byte :=
  [0x01, 0x02, 0x03, 0x04, 0x05, 0x06, 0x10, 0x11, 0x12, 0x13, 0x18, 0x19, 0x1A, 0x1B, 0x20, 0x21, 0x22, 0x23]

/-- The kinds of the supervisory line toward the module (section 11.2). -/
def supervisoryKinds : List Byte :=
  [0x30, 0x31, 0x32, 0x33, 0x34, 0x35, 0x38, 0x39, 0x3A, 0x3B, 0x40, 0x41, 0x42, 0x43, 0x44, 0x45, 0x46, 0x48, 0x49,
    0x4A, 0x4B, 0x50, 0x51, 0x52, 0x53, 0x54, 0x58, 0x59, 0x5A]

/-- A frame's payload fits in the frame (R192). -/
def payloadFits (i : Instr) : Bool :=
  match i.frame? with
  | some f => f.2.2.length ≤ Config.maxPayload
  | none => true

/-- An unknown kind is unknown on its line (R194). -/
def kindFits : Instr → Bool
  | .sourceUnknownKind _ k _ => !sourceKinds.contains k
  | .deskUnknownKind _ k _ => !deskKinds.contains k
  | .supervisoryUnknownKind k _ => !supervisoryKinds.contains k
  | _ => true

/-- The bytes of a malformed frame spell no acceptable frame (R193). -/
def bytesFit : Instr → Bool
  | .malformedFrame _ bytes _ => !bytes.isEmpty && (Receiver.feedAll .hunting bytes).2.isEmpty
  | _ => true

/-- Only the supervisory line's bytes have stop bits (R193). -/
def stopBitFits : Instr → Bool
  | .malformedFrame line _ broken => !broken || line = .supervisory
  | _ => true

/-- A well-formed command. -/
def wellFormed (i : Instr) : Bool := payloadFits i && kindFits i && bytesFit i && stopBitFits i

end Sys2Proof
end

