-- ==== Sys2Proof/Certificates/Slice0/Obligations.lean ====
section
/-!
DEFINITION. What is claimed of the module: one statement each, numbered in OBLIGATIONS.json, whose `statement` says it in words.
The sections follow the chapters of the manual.
-/

open Sys2Proof Sys2Proof.Machine

/-- A step takes the command at the front of the queue.  From 00_scope section 7.4. -/
def Obligations.StepRunsFrontCommand : Prop :=
  ∀ (s : State) (c : Instr) (rest : List Instr),
    s.pending = c :: rest → step s = exec c { s with pending := rest }

/-- A step on an empty queue lets time pass, and no further than to the next timer.  From 00_scope section 7.4. -/
def Obligations.IdleStepPassesTime : Prop :=
  ∀ (s : State),
    s.pending = [] →
    (s.powered = false → step s = .next s)
    ∧ (s.powered = true → s.command = some .restart → Steps s fun t => t.command = none ∧ t.pending = []
        ∧ (∀ d, (s.settings.desks[d]).grace ≠ 0 → t.deskLink d = { s.deskLink d with
          graceTimer := some (s.now + 1000 * (s.settings.desks[d]).grace) })
        ∧ t.sourceLinks = s.sourceLinks ∧ t.roomLock = s.roomLock ∧ t.now = s.now ∧ t.framePhase = s.framePhase
        ∧ t.powered = true ∧ t.settings = s.settings ∧ t.store = s.store)
    ∧ (s.powered = true → s.command ≠ some .restart →
        (∃ c, step s = .next { s with pending := [c], framePhase := if s.dueEvent.isSome then s.framePhase else s.framePhase - 1000 }
          ∧ (s.dueEvent = none → c = .houseFrameEvent ∧ 1000 ≤ s.framePhase) ∧ ∀ e, s.dueEvent = some e → c = e)
        ∨ (step s = .next { s with now := s.now + 1, framePhase := s.framePhase + s.frameRate }
          ∧ s.framePhase < 1000
          ∧ (∀ x due, ((s.sourceLink x).initialTimer = some due ∨ (s.sourceLink x).silenceTimer = some due) → s.now < due)
          ∧ (∀ d due, ((s.deskLink d).initialTimer = some due ∨ (s.deskLink d).silenceTimer = some due
              ∨ (s.deskLink d).graceTimer = some due) → s.now < due)
          ∧ (∀ scr due, (s.position scr).lockTimer = some due → s.now < due)
          ∧ (∀ h f due, s.head h = .settling f due → s.now < due)
          ∧ (∀ h c, (s.tier h).change = some c → s.now < c.due)
          ∧ (∀ i due, (s.slot i).holdTimer = some due → s.now < due)
          ∧ (∀ due, s.restoration = .delaying due → s.now < due)
          ∧ ∀ r due, s.roomLock = some r → r.due = some due → s.now < due))

/-- What reset leaves, and the invariants it satisfies.  From 01_the_connection_table sections 1.1 and 1.4,
02_heads_and_formats sections 2.1 and 2.2, 03_budgets_and_tiers section 3.2, 04_input_control section 4.1,
06_desk_ports section 6.1, 08_staged_layouts_and_salvos section 8.1, 09_supervisory_line_and_room_lock sections
9.1, 9.6 and 9.7, 10_stored_configuration_and_start_up sections 10.1 and 10.5. -/
def Obligations.ResetLeavesRecords : Prop :=
  State.reset.conns = [] ∧ (∀ scr, State.reset.position scr = { shown := .card .blank, pending := none, lockTimer := none })
    ∧ (∀ x, (State.reset.sourceLink x).link = .down ∧ (State.reset.sourceLink x).headCount = 4)
    ∧ (∀ h, State.reset.head h = .absent) ∧ (∀ h, State.reset.tier h = { tier := 0, raw := none, change := none, lastNamed := none })
    ∧ (∀ x, State.reset.controlRecord x = { control := .free, claims := [] })
    ∧ (∀ x, State.reset.input x = { queue := [], deferred := none, sharer := none, led := none, sending := none, tierSets := [] })
    ∧ (∀ d, State.reset.target d = none ∧ State.reset.stack d = { executing := none, waiting := none } ∧ State.reset.noticeList d = [])
    ∧ (∀ d, (State.reset.deskLink d).link = .down ∧ (State.reset.deskLink d).screenCount = 4
        ∧ (State.reset.deskLink d).graceTimer = some 60000)
    ∧ (∀ i, (State.reset.slot i).state = .empty ∧ (State.reset.slot i).entries = [])
    ∧ State.reset.arrivals = 0 ∧ State.reset.restoration = .idle ∧ State.reset.resumption.list = []
    ∧ State.reset.readmissions = [] ∧ State.reset.admissions = [] ∧ State.reset.command = none ∧ State.reset.roomLock = none
    ∧ State.reset.settings = .factory ∧ State.reset.marks = Marks.atStart false
    ∧ State.reset.supervisoryReceiver = .hunting ∧ (∀ d : Desk, State.reset.deskReceivers[d] = .hunting)
    ∧ (∀ x : Source, State.reset.sourceReceivers[x] = .hunting) ∧ State.reset.pending = [] ∧ State.reset.sent = []
    ∧ State.reset.SettingsLegal ∧ State.reset.Bounded ∧ State.reset.Lawful ∧ State.reset.Totals

/-- Every command completes, adding only to the frames sent; without power only POWER_UP does anything.  From 00_scope
section 7.4, 06_desk_ports section 6.5, 10_stored_configuration_and_start_up sections 10.4 and 10.5. -/
def Obligations.EveryCommandCompletes : Prop :=
  ∀ (c : Instr) (s : State),
    (Runs c s fun t => t.pending = s.pending ∧ s.sent <+: t.sent)
    ∧ (s.powered = false → c ≠ .powerUp → exec c s = .next s)
    ∧ exec .powerFail s = .next { s with powered := false }
    ∧ (s.powered = true → exec .powerUp s = .next s)

/-- Settings stay within their ranges.  From 09_supervisory_line_and_room_lock section 9.2,
10_stored_configuration_and_start_up sections 10.1 and 10.5. -/
def Obligations.StepKeepsSettingsLegal : Prop :=
  ∀ (s : State),
    ∀ t, s.SettingsLegal → step s = .next t → t.SettingsLegal

/-- Queues stay within their capacities, the deferred key slot is occupied only beside a full queue, and handles stay distinct.
From 01_the_connection_table section 1.2,
04_input_control section 4.1, 05_keyboard_and_pointer_path section 5.3, 06_desk_ports section 6.5. -/
def Obligations.StepKeepsBounds : Prop :=
  ∀ (s : State),
    ∀ t, s.Bounded → step s = .next t → t.Bounded

/-- The first law, handles, reservations, privacy and the claim order stand after every step.  From
01_the_connection_table sections 1.1, 1.2, 1.9 and 1.11, 04_input_control section 4.1,
08_staged_layouts_and_salvos section 8.1, 09_supervisory_line_and_room_lock section 9.1. -/
def Obligations.StepKeepsLaws : Prop :=
  ∀ (s : State),
    ∀ t, s.Bounded → s.Lawful → step s = .next t → t.Lawful

/-- Every desk total stays at or below 200 BU and every source total at or below 160 BU.  From 01_the_connection_table
sections 1.3 and 1.9, 03_budgets_and_tiers sections 3.2 to 3.7, 08_staged_layouts_and_salvos section 8.3. -/
def Obligations.StepKeepsTotals : Prop :=
  ∀ (s : State),
    ∀ t, s.SettingsLegal → s.Bounded → s.Lawful → s.Totals → step s = .next t → t.Totals

/-- Settings, room lock, saved settings, marks and links change by their own events alone.  From
09_supervisory_line_and_room_lock sections 9.2, 9.6 and 9.7, 10_stored_configuration_and_start_up sections 10.4
and 10.5, 02_heads_and_formats section 2.1, 06_desk_ports section 6.1, 11_frame_layouts section 11.1. -/
def Obligations.StateMovesByItsOwnEvents : Prop :=
  ∀ (c : Instr) (s : State) (d : Desk) (x : Source),
    Runs c s fun t =>
    (setsSettings c = false → t.settings = s.settings) ∧ (setsRoomLock c = false → t.roomLock = s.roomLock)
    ∧ (t.store.region = s.store.region
        ∨ c = .settingsSaveComplete true ∧ s.store.op = some (.saveSettings t.store.region))
    ∧ (clearsMarks c = false → s.marks.Within t.marks)
    ∧ (movesSource x c = false → t.sourceLinks[x] = s.sourceLinks[x]) ∧ (movesDesk d c = false → t.deskLinks[d] = s.deskLinks[d])

/-- A frame is read back as the command it is.  From 11_frame_layouts sections 11.1 and 11.2. -/
def Obligations.FramesReadBack : Prop :=
  ∀ (i : Instr),
    ∀ line kind payload, wellFormed i = true → i.frame? = some (line, kind, payload) →
    decodeFrame line (isBusy i) (frameBytes kind payload) = i

/-- Frames written out byte by byte read as their commands.  From 11_frame_layouts sections 11.1 to 11.6. -/
def Obligations.SampleFrames : Prop :=
  decodeFrame (.desk 3) false [0xA5, 0x00, 0x02, 0xFE] = .deskHeartbeat 3 []
    ∧ decodeFrame (.desk 3) false [0xA5, 0x04, 0x10, 0x07, 0x01, 0x09, 0x00, 0xDB] = .connect 3 [7, 1, 9, 0]
    ∧ decodeFrame (.desk 15) false [0xA5, 0x04, 0x18, 0x02, 0x17, 0x01, 0x01, 0xC9] = .take 15 [2, 23, 1, 1]
    ∧ decodeFrame (.source 9) false [0xA5, 0x02, 0x08, 0x01, 0x02, 0xF3] = .tierAck 9 [1, 2]
    ∧ decodeFrame (.source 0) false [0xA5, 0x08, 0x07, 0x00, 0x01, 0x80, 0x07, 0x38, 0x04, 0x3C, 0x18, 0xD9]
        = .headFormat 0 [0, 1, 0x80, 0x07, 0x38, 0x04, 60, 24]
    ∧ decodeFrame .supervisory false [0xA5, 0x00, 0x30, 0xD0] = .ping []
    ∧ decodeFrame .supervisory false [0xA5, 0x04, 0x58, 0x01, 0x00, 0x00, 0x00, 0xA3] = .lock [1, 0, 0, 0]
    ∧ decodeFrame .supervisory true [0xA5, 0x00, 0x30, 0xD0] = .busy 0x30 []

/-- Raw and tier charges are quotients rounded up: 3 to 708 raw, 1 to 708 at a tier.  States R51. -/
def Obligations.ChargesRoundUp : Prop :=
  ∀ (f : Format) (r : TierRecord) (raw : Nat),
    f.width * f.height * f.refresh * f.depth ≤ 50000000 * rawCharge f
    ∧ 50000000 * rawCharge f < f.width * f.height * f.refresh * f.depth + 50000000
    ∧ (640 ≤ f.width → f.width ≤ 4096 → 480 ≤ f.height → f.height ≤ 2400 → 24 ≤ f.refresh → f.refresh ≤ 120 →
        (f.depth = 18 ∨ f.depth = 24 ∨ f.depth = 30) → 3 ≤ rawCharge f ∧ rawCharge f ≤ 708)
    ∧ (r.raw = some raw → 3 ≤ raw → raw ≤ 708 →
      (∀ t : Tier, raw ≤ [1, 2, 4, 8][t] * r.chargeAt t ∧ [1, 2, 4, 8][t] * r.chargeAt t < raw + [1, 2, 4, 8][t]
          ∧ 1 ≤ r.chargeAt t ∧ r.chargeAt t ≤ 708)
      ∧ ∀ t u : Tier, t ≤ u → r.chargeAt u ≤ r.chargeAt t)

/-- In a quiet room the end of a taking changes nothing.  From 00_scope section 7.4. -/
def Obligations.RoomAtRestStaysSo : Prop :=
  ∀ (s : State),
    s.quiet → s.settle = s

/-- A heartbeat and a frame of unknown kind do nothing but be heard.  From 02_heads_and_formats section 2.1,
06_desk_ports section 6.1, 11_frame_layouts section 11.1. -/
def Obligations.HeartbeatsRestartTimers : Prop :=
  ∀ (s : State) (x : Source) (d : Desk) (kind : Byte) (p : List Byte),
    s.powered = true →
    exec (.sourceHeartbeat x p) s = .next (s.heardSource x).settle
    ∧ exec (.sourceUnknownKind x kind p) s = .next (s.heardSource x).settle
    ∧ exec (.deskHeartbeat d p) s = .next (s.heardDesk d).settle
    ∧ ((s.deskLink d).link.live = true →
        exec (.deskUnknownKind d kind p) s = .next ((s.heardDesk d).responded d (p.headD 0) kind .nak .unknownKind []).settle)
    ∧ ((s.deskLink d).link.live = false → exec (.deskUnknownKind d kind p) s = .next (s.heardDesk d).settle)

/-- PING, VERSION and unknown kinds; and BUSY for every frame while a command is in progress.  From
09_supervisory_line_and_room_lock section 9.1, 11_frame_layouts sections 11.2 and 11.6. -/
def Obligations.SupervisoryLineAnswers : Prop :=
  ∀ (s : State) (kind : Byte) (p : List Byte) (c : Instr) (ck : Byte) (cp : List Byte),
    s.powered = true →
    (s.command = none →
      exec (.ping []) s = .next (s.heardSupervisor.answered 0x30 .done .noDetail []).settle
      ∧ exec (.version []) s = .next (s.heardSupervisor.answered 0x31 .done .noDetail [1, 0]).settle
      ∧ (p ≠ [] → exec (.ping p) s = .next (s.heardSupervisor.answered 0x30 .refused .badArgument []).settle
          ∧ exec (.version p) s = .next (s.heardSupervisor.answered 0x31 .refused .badArgument []).settle)
      ∧ exec (.supervisoryUnknownKind kind p) s = .next (s.heardSupervisor.answered kind .nak .unknownKind []).settle)
    ∧ (s.command.isSome = true → c.frame? = some (.supervisory, ck, cp) →
      let u := s.heardSupervisor.answered ck .busy .noDetail []
      exec c s = .next (if leavesNoWork c then u else u.settle))

/-- Bytes that spell no frame are dropped, those that complete one are it, and a gap ends a frame.  From
11_frame_layouts section 11.1. -/
def Obligations.ReceiversDropMalformedFrames : Prop :=
  ∀ (s : State) (x : Source) (d : Desk) (due : Time) (line : Line) (c : Instr) (kind : Byte) (w p : List Byte) (b : Byte),
    s.powered = true →
    let fed (r : Receiver) (bytes : List Byte) : Receiver × List (Byte × List Byte) := Receiver.feedAll r bytes
    ((fed s.sourceReceivers[x] p).2 = [] → exec (.malformedFrame (.source x) p false) s
        = .next { s with sourceReceivers := s.sourceReceivers.set x (fed s.sourceReceivers[x] p).1 })
    ∧ ((fed s.deskReceivers[d] p).2 = [] → exec (.malformedFrame (.desk d) p false) s
        = .next { s with deskReceivers := s.deskReceivers.set d (fed s.deskReceivers[d] p).1 })
    ∧ ((fed s.supervisoryReceiver p).2 = [] → p ≠ [] → exec (.malformedFrame .supervisory p false) s = .next { s with
          supervisoryReceiver := (fed s.supervisoryReceiver p).1
          gapTimer := if (fed s.supervisoryReceiver p).1 = .hunting then none else some (s.now + 100) })
    ∧ ((fed s.supervisoryReceiver p.dropLast).2 = [] →
        exec (.malformedFrame .supervisory p true) s = .next { s with supervisoryReceiver := .hunting, gapTimer := none })
    -- the last byte completes a frame
    ∧ (wellFormed c = true → c.frame? = some (line, kind, w) → (line = .supervisory → isBusy c = s.command.isSome) →
        (fed (s.receiver line) p).2 = [(kind, w)] → (fed (s.receiver line) p.dropLast).2 = [] →
        exec (.malformedFrame line p false) s = exec c s)
    -- a wrong check byte
    ∧ (∀ busy, w.length ≤ 248 → b ≠ checkByte kind w →
        decodeFrame line busy (0xA5 :: byte w.length :: kind :: (w ++ [b]))
            = .malformedFrame line (0xA5 :: byte w.length :: kind :: (w ++ [b])) false
        ∧ fed .hunting (0xA5 :: byte w.length :: kind :: (w ++ [b])) = (.hunting, []))
    ∧ (s.gapTimer = some due →
        exec .interByteGapExpiry s = .next { s with now := max s.now due, supervisoryReceiver := .hunting, gapTimer := none })
    ∧ (s.gapTimer = none → exec .interByteGapExpiry s = .next s)

/-- A source DESCRIPTOR brings a DOWN link to INITIAL, or sets the head count of a live one.  From
02_heads_and_formats section 2.1, 03_budgets_and_tiers section 3.5, 11_frame_layouts sections 11.1 and 11.5. -/
def Obligations.SourceDescriptorBringsLinkUp : Prop :=
  ∀ (s : State) (x : Source) (n : Byte),
    s.powered = true →
    let preferred := (s.settings.sources[x]).preferredTier
    let named (p : HeadIx → Bool) : List (HeadIx × Tier) := ((List.finRange 4).filter p).map fun k => (k, preferred)
    (n.toNat < 1 ∨ 4 < n.toNat ∨ s.command = some .restart →
        exec (.sourceDescriptor x [n]) s = .next { s with sourceReceivers := s.sourceReceivers.set x .hunting }.settle)
    ∧ (1 ≤ n.toNat → n.toNat ≤ 4 → s.command ≠ some .restart →
        ((s.sourceLink x).link = .down → Runs (.sourceDescriptor x [n]) s fun t =>
            t.sourceLinks = s.sourceLinks.set x { s.sourceLink x with
              link := .initial, headCount := n.toNat, initialTimer := some (s.now + 10000), silenceTimer := none,
              frameSince := false }
            ∧ t.deskLinks = s.deskLinks ∧ t.now = s.now ∧ SameSetup s t
            ∧ (s.quiet → (∀ i, (s.slot i).state ≠ .armed) → (∀ k : HeadIx, t.tier ⟨x, k⟩ = { s.tier ⟨x, k⟩ with
                  lastNamed := if k.val < n.toNat then some preferred else (s.tier ⟨x, k⟩).lastNamed })
                ∧ t = { s with
                    sourceReceivers := t.sourceReceivers, sourceLinks := t.sourceLinks, tiers := s.tiers.set x t.tiers[x],
                    inputs := s.inputs.set x ((s.input x).withTierSets (named fun k => k.val < n.toNat)), marks := t.marks }))
        ∧ ((s.sourceLink x).link.live = true → n.toNat = (s.sourceLink x).headCount →
            exec (.sourceDescriptor x [n]) s = .next (s.heardSource x).settle)
        ∧ ((s.sourceLink x).link.live = true → n.toNat ≠ (s.sourceLink x).headCount →
            Runs (.sourceDescriptor x [n]) s fun t =>
              (∀ k : HeadIx, t.head ⟨x, k⟩ = if k.val < n.toNat ∨ (s.sourceLink x).headCount < n.toNat then s.head ⟨x, k⟩ else .absent)
              ∧ t.sourceLinks = s.sourceLinks.set x { (s.heardSource x).sourceLink x with
                  headCount := n.toNat, heads := (t.sourceLink x).heads }
              ∧ t.deskLinks = s.deskLinks ∧ t.now = s.now ∧ SameSetup s t
              ∧ (s.quiet → (s.sourceLink x).headCount < n.toNat →
                let fresh (k : HeadIx) : Bool := (s.sourceLink x).headCount ≤ k.val ∧ k.val < n.toNat
                t.inputs = s.inputs.set x ((s.input x).withTierSets (named fresh))
                ∧ ∀ k : HeadIx, t.tier ⟨x, k⟩ = { s.tier ⟨x, k⟩ with
                    lastNamed := if fresh k then some preferred else (s.tier ⟨x, k⟩).lastNamed })))

/-- A HEAD_FORMAT takes a head through the table of its states.  From 02_heads_and_formats sections 2.2 and 2.3,
01_the_connection_table section 1.9, 03_budgets_and_tiers section 3.1, 11_frame_layouts sections 11.1 and 11.5. -/
def Obligations.HeadFormatMovesHead : Prop :=
  ∀ (s : State) (x : Source) (hd : HeadIx) (f : Option Format) (w : List Byte),
    s.powered = true →
    let p : List Byte := match f with
      | none => [byte hd, 0]
      | some g => [byte hd, 1] ++ le16 g.width ++ le16 g.height ++ [byte g.refresh, byte g.depth]
    (∀ g ∈ f, g.width < 65536 ∧ g.height < 65536 ∧ g.refresh < 256 ∧ g.depth < 256) →
    let r := s.head ⟨x, hd⟩
    -- wrong lengths and presence bytes, and heads above 3
    (¬ (w.length = 2 ∧ w[1]? = some 0) → ¬ (w.length = 8 ∧ w[1]? = some 1) →
        exec (.headFormat x w) s = .next (s.heardSource x).settle)
    ∧ (4 ≤ (w.headD 0).toNat → exec (.headFormat x w) s = .next (s.heardSource x).settle)
    ∧ ((s.sourceLink x).link = .down → exec (.headFormat x p) s = .next (s.heardSource x).settle)
    ∧ ((s.sourceLink x).headCount ≤ hd.val → exec (.headFormat x p) s = .next (s.heardSource x).settle)
    ∧ ((s.sourceLink x).link.live = true → hd.val < (s.sourceLink x).headCount → r.settleTimer = none →
        r.format = f → exec (.headFormat x p) s = .next (s.heardSource x).settle)
    ∧ ((s.sourceLink x).link.live = true → hd.val < (s.sourceLink x).headCount → Runs (.headFormat x p) s fun t =>
        t.sourceLinks = s.sourceLinks.set x { (s.heardSource x).sourceLink x with
          heads := (s.sourceLink x).heads.set hd (r.announced f s.now) }
        ∧ (t.tier ⟨x, hd⟩).raw = (if r.isActive = true ∧ r.announced f s.now ≠ r then none else (s.tier ⟨x, hd⟩).raw)
        ∧ t.deskLinks = s.deskLinks ∧ t.now = s.now ∧ SameSetup s t
        ∧ (s.quiet → s.Bounded → r.announced f s.now ≠ r → MovedToWaiting s t fun h => h = ⟨x, hd⟩))

/-- A head whose format has stood for the settle time becomes ACTIVE or UNSUPPORTED.  From 02_heads_and_formats
sections 2.2 and 2.3, 03_budgets_and_tiers section 3.1. -/
def Obligations.SettleTimerActivatesHead : Prop :=
  ∀ (s : State) (x : Source) (hd : HeadIx) (f : Format) (due : Time) (r : Conn) (id : Nat) (pl : List Placement),
    s.powered = true →
    (s.head ⟨x, hd⟩ = .settling f due → Runs (.settleTimerExpiry x hd) s fun t =>
      let inRange := (640 ≤ f.width ∧ f.width ≤ 4096 ∧ f.width % 8 = 0) ∧ (480 ≤ f.height ∧ f.height ≤ 2400)
        ∧ (24 ≤ f.refresh ∧ f.refresh ≤ 120) ∧ (f.depth = 18 ∨ f.depth = 24 ∨ f.depth = 30)
      (inRange → t.head ⟨x, hd⟩ = .active f ∧ (t.tier ⟨x, hd⟩).raw = some (rawCharge f)
        ∧ (t.tier ⟨x, hd⟩).tier = (s.settings.sources[x]).preferredTier
        ∧ (({ s.without r.handle with admissions := [], readmissions := [] } : State).quiet → s.Bounded → r ∈ s.conns →
          r.auto = some .readmission → r.step = some .admission → r.replaces = none → r.scan = none →
          s.admissions = [⟨id, .record r.handle, pl, .own⟩] → s.issuedOutstanding id = true → (s.tier ⟨x, hd⟩).raw = none →
          (∀ i, ∀ e ∈ (s.slot i).entries, e.entry.target ≠ .head ⟨x, hd⟩) →
          t.readmissions = s.readmissions ++ ((s.conns.filter fun c => c.head = ⟨x, hd⟩
              && (c.state = .waiting || c.state = .fault) && !s.readmissions.any (·.handle = c.handle)).map
                fun c => ⟨c.handle, .headActive⟩)
          ∧ t.conns.map Conn.core = s.conns.map Conn.core ∧ t.admissions = s.admissions ∧ t.sent = s.sent))
      ∧ (¬ inRange → t.head ⟨x, hd⟩ = .unsupported f ∧ (t.tier ⟨x, hd⟩).raw = (s.tier ⟨x, hd⟩).raw)
      ∧ t.sourceLinks = s.sourceLinks.set x { s.sourceLink x with heads := (s.sourceLink x).heads.set hd (t.head ⟨x, hd⟩) }
      ∧ t.deskLinks = s.deskLinks ∧ t.now = max s.now due ∧ SameSetup s t)
    ∧ ((s.head ⟨x, hd⟩).settleTimer = none → exec (.settleTimerExpiry x hd) s = .next s.settle)

/-- A tier change settles as acknowledged or as timed out.  From 03_budgets_and_tiers sections 3.2 and 3.5 to 3.7. -/
def Obligations.TierChangeSettles : Prop :=
  ∀ (s : State) (x : Source) (hd : HeadIx) (c : TierChange) (tier : Tier),
    let h : HeadId := ⟨x, hd⟩
    let settled (t : State) : Prop := (∀ g, g ≠ h → t.tier g = s.tier g) ∧ t.sourceLinks.map (·.heads) = s.sourceLinks.map (·.heads)
      ∧ t.deskLinks = s.deskLinks ∧ t.controls = s.controls ∧ t.sent = s.sent ∧ SameSetup s t
      ∧ t.conns.map Conn.core = s.conns.map Conn.core
      ∧ ∀ q ∈ t.conns, q.reservation = if q.state = .switching ∨ q.state = .live then t.headCharge q.head else 0
    (s.powered = true → (s.tier h).change ≠ none ∧ (s.tier h).change.map (·.new) ≠ some tier ∨ (s.tier h).change = none
        ∨ (s.sourceLink x).headCount ≤ hd.val → exec (.tierAck x [byte hd, byte tier]) s = .next (s.heardSource x).settle)
    ∧ (s.powered = true → (s.tier h).change = none → exec (.tierChangeTimerExpiry x hd) s = .next s.settle)
    ∧ (s.quiet → (s.tier h).change = some c →
        ((s.sourceLink x).link.live = true → hd.val < (s.sourceLink x).headCount →
          Runs (.tierAck x [byte hd, byte c.new]) s fun t =>
            t.tier h = { s.tier h with tier := c.new, change := none } ∧ settled t
            ∧ (t.headCharge h < s.headCharge h →
                t.restoration = .delaying (s.now + 1000 * s.settings.room.restorationDelay)))
        ∧ Runs (.tierChangeTimerExpiry x hd) s fun t =>
            t.tier h = { s.tier h with
              change := none, lastNamed := if (s.sourceLink x).link.live then some c.old else (s.tier h).lastNamed }
            ∧ t.now = max s.now c.due ∧ settled t
            ∧ t.inputs = s.inputs.set x
                (if (s.sourceLink x).link.live then (s.input x).withTierSets [(hd, c.old)] else s.input x)
            ∧ (c.origin = .restoration → t.restoration = s.restoration))

/-- A changed indicator set is kept, marked and sent to the desks that target the source.  From
05_keyboard_and_pointer_path section 5.5, 11_frame_layouts section 11.5. -/
def Obligations.LedStateReachesDesks : Prop :=
  ∀ (s : State) (x : Source) (b : Byte) (w : List Byte),
    s.powered = true →
    ((s.sourceLink x).link.live = true → (s.input x).led ≠ some (b.truncate 5) →
      exec (.ledState x [b]) s = .next { s.heardSource x with
        inputs := s.inputs.set x { s.input x with led := some (b.truncate 5) }
        marks := { s.marks with sources := s.marks.sources.set x true }
        sent := s.sent ++ ((List.finRange 16).filter fun d : Desk => s.targets[d] = some x ∧ (s.deskLinks[d]).link.live).map
          fun d => Sent.deskLed d (some x) (b.truncate 5) }.settle)
    ∧ ((s.input x).led = some (b.truncate 5) ∨ (s.sourceLink x).link = .down →
      exec (.ledState x [b]) s = .next (s.heardSource x).settle)
    ∧ (w.length ≠ 1 → exec (.ledState x w) s = .next (s.heardSource x).settle)

/-- A link whose unit was heard in the initial period becomes UP.  From 02_heads_and_formats section 2.1,
06_desk_ports section 6.1. -/
def Obligations.InitialPeriodEndsInUp : Prop :=
  ∀ (s : State) (x : Source) (d : Desk) (due : Time),
    s.powered = true →
    ((s.sourceLink x).link = .initial → (s.sourceLink x).initialTimer = some due → (s.sourceLink x).frameSince = true →
      exec (.sourceInitialTimerExpiry x) s = .next { s with
        now := max s.now due
        sourceLinks := s.sourceLinks.set x { s.sourceLink x with
          link := .up, initialTimer := none
          silenceTimer := some (max s.now due + 1000 * (s.settings.sources[x]).linkTimeout) }
        marks := { s.marks with sources := s.marks.sources.set x true } }.settle)
    ∧ ((s.deskLink d).link = .initial → (s.deskLink d).initialTimer = some due → (s.deskLink d).frameSince = true →
      exec (.deskInitialTimerExpiry d) s = .next { s with
        now := max s.now due
        deskLinks := s.deskLinks.set d { s.deskLink d with
          link := .up, initialTimer := none
          silenceTimer := some (max s.now due + 1000 * (s.settings.desks[d]).linkTimeout) }
        marks := { s.marks with desks := s.marks.desks.set d true } }.settle)
    ∧ ((s.sourceLink x).link ≠ .initial ∨ (s.sourceLink x).initialTimer = none →
      exec (.sourceInitialTimerExpiry x) s = .next s.settle)
    ∧ ((s.deskLink d).link ≠ .initial ∨ (s.deskLink d).initialTimer = none →
      exec (.deskInitialTimerExpiry d) s = .next s.settle)

/-- A source link that is lost, silent, not heard in its initial period or reset goes DOWN.  From 02_heads_and_formats
sections 2.1 and 2.4, 01_the_connection_table section 1.9, 05_keyboard_and_pointer_path sections 5.4 and 5.5.  That the TIER_SET frames
waiting for the transmitter are dropped (`SourceGone.transmitter`) is the model's choice (log entry 29). -/
def Obligations.SourceLinkGoesDown : Prop :=
  ∀ (s : State) (x : Source) (due : Time),
    s.powered = true →
    let kept (t : State) : Prop := MovedToWaiting s t (fun h => h.source = x) ∧ t.controls = s.controls ∧ t.targets = s.targets
      ∧ (t.input x).sharer = (s.input x).sharer
    let gone (t : State) : Prop := SourceGone s t x (s.sourceLink x).headCount
      ∧ (s.quiet → s.Bounded → kept t)
    ((s.sourceLink x).link = .up → (s.sourceLink x).silenceTimer = some due →
        Runs (.sourceSilenceTimerExpiry x) s fun t => gone t ∧ t.now = max s.now due)
    ∧ ((s.sourceLink x).link = .initial → (s.sourceLink x).initialTimer = some due → (s.sourceLink x).frameSince = false →
        Runs (.sourceInitialTimerExpiry x) s fun t => gone t ∧ t.now = max s.now due)
    ∧ ((s.sourceLink x).link.live = true → Runs (.sourceLinkLoss x) s fun t => gone t ∧ t.now = s.now)
    ∧ ((s.sourceLink x).link.live = true → s.command = none → Runs (.portReset [1, byte x]) s fun t =>
        SourceGone s t x 4 ∧ t.now = s.now ∧ t.marks.sources[x] = true
        ∧ .supervisory ⟨.done, 0x3B, .noDetail, []⟩ ∈ t.sent
        ∧ (s.quiet → s.Bounded → kept t))
    ∧ ((s.sourceLink x).link = .down → s.command = none → Runs (.portReset [1, byte x]) s fun t =>
        t.sourceLinks = s.sourceLinks.set x { s.sourceLink x with headCount := 4 } ∧ t.marks.sources[x] = true)
    ∧ ((s.sourceLink x).link ≠ .up → exec (.sourceSilenceTimerExpiry x) s = .next s.settle)
    ∧ ((s.sourceLink x).link = .down →
        exec (.sourceLinkLoss x) s = .next { s with sourceReceivers := s.sourceReceivers.set x .hunting }.settle)

/-- A transmitter that completes a frame starts a waiting TIER_SET before an input entry.  From
05_keyboard_and_pointer_path section 5.4. -/
def Obligations.TransmitterSendsNextFrame : Prop :=
  ∀ (s : State) (x : Source) (f : SourceFrame) (ft : HeadIx × Tier) (fts : List (HeadIx × Tier)) (e : InputEntry) (es : List InputEntry),
    s.powered = true →
    let after (p : InputPath) : State := { s with inputs := s.inputs.set x p, sent := s.sent ++ [.toSource x f] }
    let q := s.input x
    (q.sending = none → exec (.transmitterComplete x) s = .next s.settle)
    ∧ (q.sending = some f → (s.sourceLink x).link.live = true →
        (q.tierSets = ft :: fts → exec (.transmitterComplete x) s
            = .next (after { q with sending := some (.tierSet ft.1 ft.2), tierSets := fts }).settle)
        ∧ (q.tierSets = [] → q.queue = e :: es → exec (.transmitterComplete x) s
            = .next (after { q with sending := some (.input e.body), queue := es ++ q.deferred.toList, deferred := none }).settle)
        ∧ (q.tierSets = [] → q.queue = [] →
            exec (.transmitterComplete x) s = .next (after { q with sending := none }).settle))

/-- A desk DESCRIPTOR brings a DOWN or LOST desk to INITIAL, or sets the screen count of a live one.  From
06_desk_ports section 6.1, 01_the_connection_table section 1.10, 11_frame_layouts section 11.1. -/
def Obligations.DeskDescriptorBringsLinkUp : Prop :=
  ∀ (s : State) (d : Desk) (n : Byte),
    s.powered = true →
    let within (t : State) : Prop := t.sourceLinks = s.sourceLinks ∧ t.now = s.now ∧ SameSetup s t
      ∧ (s.quiet → s.Bounded → n.toNat < (s.deskLink d).screenCount →
          ∀ c ∈ t.conns, c.screen.desk = d → c.screen.screen.val < n.toNat)
    (n.toNat < 1 ∨ 4 < n.toNat ∨ s.command = some .restart →
        exec (.deskDescriptor d [n]) s = .next { s with deskReceivers := s.deskReceivers.set d .hunting }.settle)
    ∧ (1 ≤ n.toNat → n.toNat ≤ 4 → s.command ≠ some .restart →
        ((s.deskLink d).link.live = false → Runs (.deskDescriptor d [n]) s fun t =>
            t.deskLinks = s.deskLinks.set d {
              link := .initial, screenCount := n.toNat, initialTimer := some (s.now + 10000), silenceTimer := none,
              graceTimer := none, frameSince := false }
            ∧ within t)
        ∧ ((s.deskLink d).link.live = true → n.toNat = (s.deskLink d).screenCount →
            exec (.deskDescriptor d [n]) s = .next (s.heardDesk d).settle)
        ∧ ((s.deskLink d).link.live = true → n.toNat ≠ (s.deskLink d).screenCount → Runs (.deskDescriptor d [n]) s fun t =>
            t.deskLinks = s.deskLinks.set d { (s.heardDesk d).deskLink d with screenCount := n.toNat } ∧ within t))

/-- LOCKED makes a SWITCHING record LIVE, UNLOCKED takes it back, and a lock timer that expires makes it FAULT.  From
01_the_connection_table sections 1.5 and 1.6. -/
def Obligations.LockReportsMoveRecords : Prop :=
  ∀ (s : State) (d : Desk) (k : ScreenIx) (c : Conn) (due : Time),
    let scr : ScreenId := ⟨d, k⟩
    let ended : Conn := { c with step := none, auto := none, prior := none, answerTo := none }
    let answer (o : ResponseOutcome) (detail doneDetail : Detail) (code : Byte) : List Sent :=
      match c.answerTo with
      | none => []
      | some .desk => match (s.stack d).executing with
        | none => []
        | some e => if (s.deskLink d).link.live then
            [.deskResponse d e.request.number ⟨o, e.request.body.kind, if o = .done then doneDetail else detail, [code]⟩] else []
      | some .force => match s.command with
        | none => []
        | some q => [.supervisory ⟨o, q.kind, detail, [code]⟩]
    let frame (t : State) : Prop := SameSetup s t ∧ t.sourceLinks = s.sourceLinks ∧ t.controls = s.controls
      ∧ SameRecordsBut c.handle s t ∧ ∀ r, r ≠ scr → t.position r = s.position r
    (s.powered = true → (s.deskLink d).screenCount ≤ k.val ∨ (s.position scr).lockTimer = none →
        exec (.locked d [byte k]) s = .next (s.heardDesk d).settle)
    ∧ (s.powered = true → (s.deskLink d).screenCount ≤ k.val ∨ (s.screenConn scr).map (·.state) ≠ some .live →
        exec (.unlocked d [byte k]) s = .next (s.heardDesk d).settle)
    ∧ (s.powered = true → (s.position scr).lockTimer = none → exec (.lockTimerExpiry d k) s = .next s.settle)
    ∧ (s.quiet → s.Bounded → s.screenConn scr = some c →
        ((s.deskLink d).link.live = true → k.val < (s.deskLink d).screenCount →
          (c.state = .switching → (s.position scr).lockTimer = some due → Runs (.locked d [byte k]) s fun t =>
            t.conn? c.handle = some { ended with state := .live, reservation := t.headCharge c.head }
            ∧ (t.position scr).lockTimer = none ∧ t.isDue scr (.route c.head) = true
            ∧ t.sent = s.sent ++ answer .done .noDetail (s.doneDetail d) 3 ∧ t.deskLinks = (s.heardDesk d).deskLinks ∧ frame t)
          ∧ (c.state = .live → Runs (.unlocked d [byte k]) s fun t =>
            t.conn? c.handle = some { c with state := .switching, step := none }
            ∧ (t.position scr).lockTimer = some (s.now + s.settings.room.lockTimeout) ∧ t.isDue scr (.route c.head) = true
            ∧ t.sent = s.sent ∧ t.deskLinks = (s.heardDesk d).deskLinks ∧ frame t))
        ∧ (c.state = .switching → (s.position scr).lockTimer = some due → Runs (.lockTimerExpiry d k) s fun t =>
            t.conn? c.handle = some { ended with state := .fault, reservation := 0 }
            ∧ (t.position scr).lockTimer = none
            ∧ t.isDue scr (.card (if (s.deskLink d).link.live then .fault else .blank)) = true
            ∧ t.sent = s.sent ++ answer .failed .lockTimeout .lockTimeout 4 ∧ t.deskLinks = s.deskLinks
            ∧ t.now = max s.now due ∧ frame t))

/-- Key and pointer reports join the queue of the desk's target, or are dropped.  From 05_keyboard_and_pointer_path
sections 5.1 to 5.4, 04_input_control section 4.7, 11_frame_layouts section 11.5. -/
def Obligations.ReportsReachTheTarget : Prop :=
  ∀ (s : State) (d : Desk) (x : Source) (m : Mode) (o : Desk) (t0 : Time) (ms : List Desk) (m0 k1 k2 k3 k4 k5 k6 w b : Byte) (px py pw : Int) (pb : BitVec 5) (a : Sharer),
    s.powered = true → (s.deskLink d).link.live = true →
    let keys : Instr := .keys d [m0, k1, k2, k3, k4, k5, k6]
    let pointer : Instr := .pointer d [k1, k2, k3, k4, w, b]
    let body : InputBody := .keys m0 (dedup ([k1, k2, k3, k4, k5, k6].filter (· ≠ 0)))
    let dx := max (-2047) (min 2047 (int16 k1 k2))
    let dy := max (-2047) (min 2047 (int16 k3 k4))
    let wheel := max (-127) (min 127 w.toInt)
    let q := s.input x
    let after (p : InputPath) : State := { s.heardDesk d with
      inputs := s.inputs.set x p.start
      controls := s.controls.set x { s.controlRecord x with control := .held m o s.now } }
    -- a report whose desk is the input driver: the queue with it, or the state where it is discarded
    let direct (taken : InputPath → State) (dropped : State) : Prop :=
      (q.queue.length < 16 → exec keys s = .next (taken { q with queue := q.queue ++ [⟨d, body⟩] }).settle)
      ∧ (16 ≤ q.queue.length → exec keys s = .next (taken { q with deferred := some ⟨d, body⟩ }).settle)
      ∧ (q.pointerTail d = some (px, py, pw, pb) → pb = b.truncate 5 ∨ 16 ≤ q.queue.length →
          exec pointer s = .next (taken { q with queue := q.queue.dropLast ++ [⟨d, .pointer (max (-2047) (min 2047 (px + dx)))
            (max (-2047) (min 2047 (py + dy))) (max (-127) (min 127 (pw + wheel))) (b.truncate 5)⟩] }).settle)
      ∧ (q.pointerTail d = none ∨ q.pointerTail d = some (px, py, pw, pb) ∧ pb ≠ b.truncate 5 → q.queue.length < 16 →
          exec pointer s = .next (taken { q with queue := q.queue ++ [⟨d, .pointer dx dy wheel (b.truncate 5)⟩] }).settle)
      ∧ (q.pointerTail d = none → 16 ≤ q.queue.length → exec pointer s = .next dropped.settle)
    let mine (p : InputPath) : InputPath := { p with sharer := some ⟨d, s.now⟩ }
    let withInput (p : InputPath) : State := { s.heardDesk d with inputs := s.inputs.set x p }
    (s.target d = none → exec keys s = .next (s.heardDesk d).settle ∧ exec pointer s = .next (s.heardDesk d).settle)
    ∧ (s.target d = some x → (s.sourceLink x).link = .down →
        exec keys s = .next (s.heardDesk d).settle ∧ exec pointer s = .next (s.heardDesk d).settle)
    ∧ (s.target d = some x → (s.sourceLink x).link.live = true → s.control x = .held m o t0 → direct after (s.heardDesk d))
    ∧ (s.target d = some x → (s.sourceLink x).link.live = true → s.control x = .shared ms →
        (q.sharer = some a → a.desk = d → direct (fun p => withInput (mine p).start) (withInput (mine q)))
        ∧ (q.sharer = some a → a.desk ≠ d → s.now < a.since + (s.settings.sources[x]).shareInterval →
            exec keys s = .next (s.heardDesk d).settle ∧ exec pointer s = .next (s.heardDesk d).settle)
        ∧ (q.sharer = some a → a.desk ≠ d → a.since + (s.settings.sources[x]).shareInterval ≤ s.now → s.quiet → s.Bounded →
            q.queue.length < 15 → ∀ r ∈ [(keys, body), (pointer, .pointer dx dy wheel (b.truncate 5))], Runs r.1 s fun t =>
              let p : InputPath := (mine { q with queue := q.queue ++ [⟨a.desk, .releaseAll⟩] }).start
              t.input x = ({ p with queue := p.queue ++ [⟨d, r.2⟩] } : InputPath).start
              ∧ t.marks.sources[x] = true ∧ t.marks.desks[d] = true ∧ t.marks.desks[a.desk] = true
              ∧ t = { s.heardDesk d with inputs := s.inputs.set x (t.input x), marks := t.marks })
        ∧ (q.sharer = none → s.quiet → q.queue.length < 16 →
          ∀ r ∈ [(keys, body), (pointer, .pointer dx dy wheel (b.truncate 5))], r.1 = keys ∨ q.pointerTail d = none →
          Runs r.1 s fun t =>
            t.input x = (mine { q with queue := q.queue ++ [⟨d, r.2⟩] }).start ∧ t.marks.sources[x] = true
            ∧ t = { s.heardDesk d with inputs := s.inputs.set x (t.input x), marks := t.marks }))

/-- A request is refused, held, stacked or refused for a full stack at intake.  From 06_desk_ports sections 6.4 and
6.5, 09_supervisory_line_and_room_lock section 9.7. -/
def Obligations.RequestsAtIntake : Prop :=
  ∀ (s : State) (d : Desk) (c : Instr) (q : Request) (ex : Executing) (w : Request) (f : Notice) (p : List Byte),
    s.powered = true → stackedRequest c = some (d, q) →
    let covered := s.lockHas fun k => if q.body.isConnection then k.connections else k.control
    let blocked := (s.noticeList d).any fun a => a.kind = .preempted ∨ a.kind = .forced
    ((s.deskLink d).link.live = false → exec c s = .next (s.heardDesk d).settle)
    ∧ ((s.deskLink d).link.live = true →
      (covered = true →
        exec c s = .next ((s.heardDesk d).responded d q.number q.body.kind .refused .roomLocked []).settle)
      ∧ (covered = false → blocked = true → (s.noticeList d).head? = some f →
        exec c s = .next ((s.heardDesk d).responded d q.number q.body.kind .onHold f.kind.detail []).settle)
      ∧ (covered = false → blocked = false → ex.phase ≠ .step1 → s.stack d = { executing := some ex, waiting := none } →
        exec c s = .next { s.heardDesk d with
          requests := s.requests.set d { executing := some ex, waiting := some q } }.settle)
      ∧ (covered = false → blocked = false → ex.phase ≠ .step1 → s.stack d = { executing := some ex, waiting := some w } →
        exec c s = .next ((s.heardDesk d).responded d q.number q.body.kind .refused .stackFull []).settle)
      ∧ ∀ r ∈ ([(0x10, .connect d p), (0x11, .disconnect d p), (0x12, .scan d p), (0x13, .recall d p), (0x18, .take d p),
            (0x19, .share d p), (0x1A, .release d p), (0x1B, .withdraw d p)] : List (Byte × Instr)),
          stackedRequest r.2 = none → exec r.2 s = .next ((s.heardDesk d).responded d
            (p.headD (Config.emptyRequestNumber r.1)) r.1 .refused .badArgument []).settle)

/-- A CONNECT is refused with the detail of the first check that fails.  From 01_the_connection_table section 1.6. -/
def Obligations.ConnectChecksInOrder : Prop :=
  ∀ (s : State) (d : Desk) (n b1 b2 b3 : Byte) (k : ScreenIx) (x : Source) (hd : HeadIx),
    s.quiet → s.canAsk d true = true →
    let refused (c : Instr) (e : Detail) : Prop := exec c s = .next ((s.heardDesk d).responded d n 0x10 .refused e [])
    ((s.deskLink d).screenCount ≤ b1.toNat ∨ 4 ≤ b1.toNat ∨ 24 ≤ b2.toNat ∨ 4 ≤ b3.toNat → refused (.connect d [n, b1, b2, b3]) .badArgument)
    ∧ ((s.sourceLink x).headCount ≤ hd.val → refused (.connect d [n, b1, byte x, byte hd]) .badArgument)
    ∧ (k.val < (s.deskLink d).screenCount → hd.val < (s.sourceLink x).headCount →
        let c : Instr := .connect d [n, byte k, byte x, byte hd]
        ((s.markedBy ⟨d, k⟩).isSome = true → refused c .salvoPending)
        ∧ (s.markedBy ⟨d, k⟩ = none →
          (s.right d x = .noRight → refused c .noRight)
          ∧ (s.right d x ≠ .noRight → s.privateToOther x d = true → refused c .privateInUse)))

/-- A CONNECT on an empty screen stands WAITING, or goes to the frame event once admitted.  From
01_the_connection_table sections 1.1, 1.4 and 1.6, 03_budgets_and_tiers section 3.4. -/
def Obligations.ConnectBringsUp : Prop :=
  ∀ (s : State) (d : Desk) (n : Byte) (k : ScreenIx) (x : Source) (hd : HeadIx) (h : Handle),
    let scr : ScreenId := ⟨d, k⟩
    let head : HeadId := ⟨x, hd⟩
    let c : Instr := .connect d [n, byte k, byte x, byte hd]
    s.quiet → s.Bounded → s.canAsk d true = true → s.screenExists scr = true → s.headExists head = true →
    s.markedBy scr = none → (s.right d x).atLeast .view = true → s.privateToOther x d = false →
    s.connsAt scr = [] → s.lowestFree = some h →
    (s.headActive head = false → Runs c s fun t =>
      t.conn? h = some {
        handle := h, screen := scr, head := head, state := .waiting, reservation := 0, origin := .desk, step := none, scan := none
        replaces := none, answerTo := none, auto := none, posted := false, prior := none }
      ∧ t.isDue scr (.card (s.head head).card) = true ∧ (∀ r, r ≠ scr → t.position r = s.position r)
      ∧ SameRecordsBut h s t
      ∧ t = { (s.heardDesk d).responded d n 0x10 .done .noDetail [0] with
          conns := t.conns, positions := t.positions, marks := t.marks })
    ∧ (s.headActive head = true → (s.tier head).change = none → s.fitsNow [⟨head, scr⟩] = true → Runs c s fun t =>
      t.conn? h = some {
        handle := h, screen := scr, head := head, state := .switching, reservation := t.headCharge head, origin := .desk
        step := some .switch, scan := none, replaces := none, answerTo := some .desk, auto := none, posted := false
        prior := none }
      ∧ (t.position scr).pending = some (.route head) ∧ (t.position scr).shown = (s.position scr).shown
      ∧ (∀ r, r ≠ scr → t.position r = s.position r) ∧ SameRecordsBut h s t
      ∧ t = { s.heardDesk d with
          requests := s.requests.set d {
            executing := some ⟨⟨n, .connect (byte k) (byte x) (byte hd)⟩, .inFlight⟩, waiting := none }
          nextAdmission := t.nextAdmission, conns := t.conns, positions := t.positions, marks := t.marks })

/-- DISCONNECT and FORCE_DISCONNECT retire the record of a screen and await the frame event.  From
01_the_connection_table sections 1.8 and 1.12, 06_desk_ports section 6.5, 09_supervisory_line_and_room_lock
section 9.3. -/
def Obligations.DisconnectClearsScreen : Prop :=
  ∀ (s : State) (d : Desk) (n : Byte) (k : ScreenIx) (c : Conn),
    let scr : ScreenId := ⟨d, k⟩
    let ask : Instr := .disconnect d [n, byte k]
    let force : Instr := .forceDisconnect [byte d, byte k]
    let cleared (t : State) : Prop := t.conn? c.handle = none ∧ SameRecordsBut c.handle s t
      ∧ t.isDue scr (.card .blank) = true ∧ (t.position scr).lockTimer = none
      ∧ (∀ r, r ≠ scr → t.position r = s.position r)
      ∧ t.sourceLinks = s.sourceLinks ∧ t.controls = s.controls ∧ SameSetup s t
    let free : Prop := s.markedBy scr = none ∧ s.connsAt scr = [c] ∧ c.inFlight = false
      ∧ s.drives d c.source = false ∧ (s.claims c.source).any (·.desk = d) = false
    s.quiet → s.Bounded →
    (s.canAsk d true = true →
      (s.screenExists scr = false → exec ask s = .next ((s.heardDesk d).responded d n 0x11 .refused .badArgument []))
      ∧ (s.screenExists scr = true → (s.markedBy scr).isSome = true →
          exec ask s = .next ((s.heardDesk d).responded d n 0x11 .refused .salvoPending []))
      ∧ (s.screenExists scr = true → s.markedBy scr = none → s.connsAt scr = [] →
          exec ask s = .next ((s.heardDesk d).responded d n 0x11 .done .noRecord []))
      ∧ (s.screenExists scr = true → free → Runs ask s fun t => cleared t ∧ t.sent = s.sent
          ∧ t.deskLinks = (s.heardDesk d).deskLinks
          ∧ t.stack d = { executing := some ⟨⟨n, .disconnect (byte k)⟩, .frame⟩, waiting := none }))
    ∧ (s.command = none →
      ((s.deskLink d).link.live = true → s.screenExists scr = false →
          exec force s = .next (s.heardSupervisor.answered 0x39 .refused .badArgument []))
      ∧ ((s.deskLink d).link.live = false ∨ s.screenExists scr = true → (s.markedBy scr).isSome = true →
          exec force s = .next (s.heardSupervisor.answered 0x39 .refused .salvoPending []))
      ∧ ((s.deskLink d).link.live = false → s.markedBy scr = none → s.connsAt scr = [] →
          exec force s = .next (s.heardSupervisor.answered 0x39 .done .noRecord []))
      ∧ ((s.deskLink d).link.live = true → s.screenExists scr = true → s.markedBy scr = none → s.connsAt scr = [] →
          Runs force s fun t => t.sent.getLast? = some (.supervisory ⟨.done, 0x39, .noRecord, []⟩) ∧ t.command = none
            ∧ (t.noticeList d).any (fun a => a.kind = .forced ∧ a.screen = some k) = true
            ∧ t.conns = s.conns ∧ t.positions = s.positions)
      ∧ ((s.deskLink d).link.live = false ∨ s.screenExists scr = true → free → Runs force s fun t => cleared t
          ∧ t.deskLinks = s.deskLinks ∧ t.command = some (.forceDisconnect scr .frame)
          ∧ ((s.deskLink d).link.live = true →
              (t.noticeList d).any (fun a => a.kind = .forced ∧ a.screen = some k) = true)))

/-- A SCAN shows the first head of its list and carries the list, the index and the dwell.  From 07_scan_lists
sections 7.1 to 7.3, 01_the_connection_table section 1.6, 03_budgets_and_tiers section 3.4. -/
def Obligations.ScanStartsOnFirstHead : Prop :=
  ∀ (s : State) (d : Desk) (n : Byte) (k : ScreenIx) (head : HeadId) (h : Handle) (l : List HeadId) (lo hi : Byte) (w : List (Byte × Byte)),
    let scr : ScreenId := ⟨d, k⟩
    let dwell := if word16 lo hi = 0 then 10 else max 2 (min 600 (word16 lo hi))
    let pairs : List (Byte × Byte) := l.map fun g => (byte g.source, byte g.head)
    let ask (p : List (Byte × Byte)) : Instr := .scan d (n :: byte k :: lo :: hi :: byte p.length :: p.flatMap fun e => [e.1, e.2])
    let scan (timer : DwellTimer) (paused : Bool) : Scan := { list := l, index := 1, dwell := dwell, timer := timer, paused := paused }
    s.quiet → s.Bounded → s.canAsk d true = true →
    (w.length < 2 ∨ 16 < w.length → exec (ask w) s = .next ((s.heardDesk d).responded d n 0x12 .refused .badArgument []))
    ∧ (s.screenExists scr = true → 2 ≤ l.length → l.length ≤ 16 → l.head? = some head →
      (∀ g ∈ l, s.headExists g = true ∧ (s.right d g.source).atLeast .view = true) → s.markedBy scr = none →
      s.privateToOther head.source d = false → s.connsAt scr = [] → s.lowestFree = some h →
      (s.headActive head = false → Runs (ask pairs) s fun t =>
        t.conn? h = some {
          handle := h, screen := scr, head := head, state := .waiting, reservation := 0, origin := .scan, step := none
          scan := some (scan (if s.drives d head.source = true ∨ s.lockHas (·.scans) = true then .frozen (1000 * dwell)
            else .running (s.now + 1000 * dwell)) (s.drives d head.source))
          replaces := none, answerTo := none, auto := none, posted := false, prior := none }
        ∧ t.isDue scr (.card (s.head head).card) = true ∧ SameRecordsBut h s t
        ∧ t = { (s.heardDesk d).responded d n 0x12 .done
              (if word16 lo hi = 0 ∨ 2 ≤ word16 lo hi ∧ word16 lo hi ≤ 600 then .noDetail else .adjusted) [0] with
            conns := t.conns, positions := t.positions, marks := t.marks })
      ∧ (s.headActive head = true → (s.tier head).change = none → s.fitsNow [⟨head, scr⟩] = true → Runs (ask pairs) s fun t =>
        t.conn? h = some {
          handle := h, screen := scr, head := head, state := .switching, reservation := t.headCharge head, origin := .scan
          step := some .switch, scan := some (scan .notStarted false), replaces := none, answerTo := some .desk, auto := none
          posted := false, prior := none }
        ∧ (t.position scr).pending = some (.route head) ∧ (t.position scr).shown = (s.position scr).shown
        ∧ (∀ r, r ≠ scr → t.position r = s.position r) ∧ SameRecordsBut h s t
        ∧ t = { s.heardDesk d with
            requests := s.requests.set d {
              executing := some ⟨⟨n, .scan (byte k) (word16 lo hi) pairs⟩, .inFlight⟩, waiting := none }
            nextAdmission := t.nextAdmission, conns := t.conns, positions := t.positions, marks := t.marks })
      ∧ (s.headActive head = true → (s.tier head).change = none → s.fitsNow [⟨head, scr⟩] = false →
        (∀ g ∈ s.overflowing [] [⟨head, scr⟩], s.tierLimit g ≤ (s.tier g).tier ∧ (s.tier g).change = none) →
        s.drives d head.source = false → (s.claims head.source).any (·.desk = d) = false → Runs (ask pairs) s fun t =>
          t.conns.map Conn.core = s.conns.map Conn.core ∧ t.isDue scr (.card .blank) = true
          ∧ (∀ r, r ≠ scr → t.position r = s.position r)
          ∧ t = { (s.heardDesk d).responded d n 0x12 .failed .noBandwidth [2] with
              nextAdmission := t.nextAdmission, conns := t.conns, positions := t.positions, marks := t.marks }))

/-- A RECALL commits a VALID preset of its own desk, fails at the first entry that fails a check, and is refused where the preset is
none.  From 08_staged_layouts_and_salvos sections 8.2, 8.4 and 8.5, 10_stored_configuration_and_start_up section 10.4. -/
def Obligations.RecallCommitsPreset : Prop :=
  ∀ (s : State) (d : Desk) (n : Byte) (i : SlotIx) (b : Byte) (pr : PresetIx) (es : List StageEntry) (e : StageEntry) (op : StoreOp) (m : Nat),
    let refused (b : Byte) (e : Detail) : Prop :=
      exec (.recall d [n, b]) s = .next ((s.heardDesk d).responded d n 0x13 .refused e [])
    (s.powered = true → s.canAsk d true = true → s.store.op = some op → s.command = some op.command →
      exec (.recall d [n, byte pr]) s = .next ((s.heardDesk d).responded d n 0x13 .refused .storeBusy []).settle)
    ∧ (s.quiet → s.canAsk d true = true →
    (32 ≤ b.toNat → refused b .badArgument)
    ∧ (s.store.op = none →
      (s.store.presets[pr] = .blank → refused (byte pr) .badArgument)
      ∧ (s.store.presets[pr] = .corrupt → refused (byte pr) .presetCorrupt)
      ∧ (s.store.presets[pr] = .valid es (some (checkValue (presetImage es))) →
        ((∃ e ∈ es, e.screen.desk ≠ d) → refused (byte pr) .badArgument)
        -- the first entry that fails a check, with the first check that it fails
        ∧ ((∀ e ∈ es, e.screen.desk = d) → (es.map (·.screen)).Nodup → (s.slot i).state = .empty →
          (∀ j, j < i → (s.slot j).state ≠ .empty) → (∀ f ∈ es.take m, s.entryPasses (.desk d) f = true) → es[m]? = some e →
          let known : Prop := s.screenExists e.screen = true ∧ ∀ h, e.target = .head h → s.headExists h = true
          let allowed : Prop := ∀ h, e.target = .head h → (s.right d h.source).atLeast .view = true
          let marked := (s.markedBy e.screen).isSome
          let failed (reason : Detail) : Prop := Runs (.recall d [n, byte pr]) s fun t =>
            t.conns.map Conn.core = s.conns.map Conn.core
            ∧ t = { (s.heardDesk d).responded d n 0x13 .failed reason [byte (m + 1)] with
                slots := s.slots.set i .fresh, conns := t.conns, marks := t.marks }
          (¬ known → failed .badArgument)
          ∧ (known → ¬ allowed → failed .noRight)
          ∧ (known → allowed → marked = true → failed .overlap)
          ∧ (known → allowed → marked = false → (e.target.head?.any fun h => s.privateToOther h.source d) = true →
              failed .privateInUse))
        ∧ ((∀ e ∈ es, e.screen.desk = d ∧ s.entryPasses (.desk d) e = true) → (es.map (·.screen)).Nodup →
          (s.slot i).state = .empty → (∀ j, j < i → (s.slot j).state ≠ .empty) →
          let pl := s.activePlacements (placementsOf (es.map SlotEntry.load))
          (∀ p ∈ pl, (s.tier p.head).change = none) →
          (s.fits [] pl = true → Runs (.recall d [n, byte pr]) s fun t =>
            t.slot i = { Slot.fresh with
              state := .committing, owner := some (.desk d), stage := some .beforeEvent
              entries := es.map fun e => { entry := e, charged := s.entryActive e, marks := true } }
            ∧ (∀ e ∈ es, t.isDue e.screen (s.readyContent e) = true) ∧ (∀ p ∈ pl, t.carried p.head = true)
            ∧ (∀ r, (∀ e ∈ es, e.screen ≠ r) → t.position r = s.position r)
            ∧ t.stack d = { executing := some ⟨⟨n, .recall (byte pr)⟩, .recall i⟩, waiting := none }
            ∧ t.conns.map Conn.core = s.conns.map Conn.core
            ∧ t = { s.heardDesk d with
                requests := s.requests.set d (t.stack d), slots := s.slots.set i (t.slot i), positions := t.positions
                conns := t.conns, nextAdmission := t.nextAdmission, marks := t.marks })
          ∧ (s.fits [] pl = false →
            (∀ g ∈ s.overflowing [] pl, s.tierLimit g ≤ (s.tier g).tier ∧ (s.tier g).change = none) →
            (es.take m).any (s.entryOverflows pl) = false → es[m]?.any (s.entryOverflows pl) = true →
            Runs (.recall d [n, byte pr]) s fun t =>
              t.conns.map Conn.core = s.conns.map Conn.core
              ∧ t = { (s.heardDesk d).responded d n 0x13 .failed .noBandwidth [byte (m + 1)] with
                  slots := s.slots.set i .fresh, conns := t.conns, nextAdmission := t.nextAdmission, marks := t.marks })))))

/-- A FREE source is granted at once to a desk that views it.  From 04_input_control sections 4.1 to 4.5,
05_keyboard_and_pointer_path sections 5.1 and 5.5. -/
def Obligations.TakeAndShareOfFreeSource : Prop :=
  ∀ (s : State) (d : Desk) (n : Byte) (x : Source) (m : Mode) (b : Byte),
    let take : Instr := .take d [n, byte x, m.code, b]
    let share : Instr := .share d [n, byte x]
    let sees : Prop := ∃ c ∈ s.conns, c.screen.desk = d ∧ c.head.source = x ∧ c.state ≠ .fault
    let need : Right := match m with
      | .exclusive => .control
      | .priv => .priv
    let given (t : State) (c : Control) (kind code : Byte) : Prop := t = { s.heardDesk d with
        controls := s.controls.set x { control := c, claims := [] }
        targets := s.targets.set d (some x)
        sent := s.sent ++ .deskResponse d n ⟨.done, kind, .noDetail, [code]⟩
          :: (match (s.input x).led with
            | some set => [.deskLed d (some x) set]
            | none => [])
        conns := t.conns
        marks := t.marks } ∧ t.marks.sources[x] = true ∧ t.marks.desks[d] = true
      ∧ t.conns.map Conn.core = s.conns.map Conn.core ∧ (c ≠ .held .priv d s.now → t.conns = s.conns)
    s.quiet → s.canAsk d false = true →
    ((s.right d x).atLeast need = false → exec take s = .next ((s.heardDesk d).responded d n 0x18 .refused .noRight []))
    ∧ ((s.right d x).atLeast .share = false → exec share s = .next ((s.heardDesk d).responded d n 0x19 .refused .noRight []))
    ∧ ((s.right d x).atLeast need = true → ¬ sees →
        exec take s = .next ((s.heardDesk d).responded d n 0x18 .refused .notViewing []))
    ∧ ((s.right d x).atLeast .share = true → ¬ sees →
        exec share s = .next ((s.heardDesk d).responded d n 0x19 .refused .notViewing []))
    ∧ (s.controlRecord x = { control := .free, claims := [] } → s.noRelationBut d x = true → s.target d = none → sees →
        ((s.right d x).atLeast need = true →
          (m = .priv → (∀ c ∈ s.conns, c.head.source = x → c.screen.desk = d ∧ c.state ≠ .suspended .privacy)
            ∧ ∀ i, (s.slot i).state ≠ .armed) →
          Runs take s fun t => given t (.held m d s.now) 0x18 (match m with
            | .exclusive => 8
            | .priv => 9))
        ∧ ((s.right d x).atLeast .share = true → Runs share s fun t => given t (.shared [d]) 0x19 10))

/-- A TAKE of a source that another desk holds waits its turn, or displaces a lower rank.  From 04_input_control
section 4.4, 05_keyboard_and_pointer_path sections 5.1 and 5.3, 06_desk_ports section 6.5. -/
def Obligations.TakeOfHeldSource : Prop :=
  ∀ (s : State) (d : Desk) (n : Byte) (x : Source) (p : Desk) (t0 : Time) (b : Byte),
    let take : Instr := .take d [n, byte x, 0, b]
    let q := s.claims x
    let higher : Prop := (s.settings.desks[p]).rank < (s.settings.desks[d]).rank
    s.quiet → s.canAsk d false = true → s.control x = .held .exclusive p t0 → p ≠ d → s.noRelationBut d x = true →
    q.any (·.desk = d) = false → (s.right d x).atLeast .control = true →
    (∃ c ∈ s.conns, c.screen.desk = d ∧ c.head.source = x ∧ c.state ≠ .fault) → b = 0 ∨ b = 1 →
    (b = 0 ∨ ¬ higher →
      (4 ≤ q.length → exec take s = .next ((s.heardDesk d).responded d n 0x18 .refused .queueFull []))
      ∧ (q.length < 4 →
        (s.settings.sources[x]).controlTimeout = 0 ∨ s.now < t0 + 1000 * (s.settings.sources[x]).controlTimeout →
        let q1 := insertClaim { desk := d, rank := (s.settings.desks[d]).rank, mode := .exclusive, stamp := s.arrivals + 1 } q
        (q.Pairwise Claim.before → (∀ a ∈ q, a.stamp ≠ s.arrivals + 1) → q1.Pairwise Claim.before
            ∧ q1.Perm ({ desk := d, rank := (s.settings.desks[d]).rank, mode := .exclusive, stamp := s.arrivals + 1 } :: q))
        ∧ Runs take s fun t => t = { (s.heardDesk d).responded d n 0x18 .done .noDetail
              [11, byte (q1.findIdx (·.desk = d) + 1)] with
            arrivals := s.arrivals + 1
            controls := s.controls.set x { control := s.control x, claims := q1 }
            marks := t.marks }))
    ∧ (b = 1 → higher → s.noRelationBut p x = true → s.target p = some x → Runs take s fun t =>
        t.controlRecord x = { control := .held .exclusive d s.now, claims := q } ∧ (∀ y, y ≠ x → t.controlRecord y = s.controlRecord y)
        ∧ t.target d = some x ∧ t.target p = none
        ∧ (s.sent ++ (if (s.deskLink p).link.live = true ∧ s.noticeList p = [] then [.deskNotice p ⟨.preempted, some x, none, false⟩]
            else []) ++ [.deskResponse d n ⟨.done, 0x18, .noDetail, [8]⟩]) <+: t.sent
        ∧ ((s.deskLink p).link.live = true → (t.noticeList p).any (fun a => a.kind = .preempted ∧ a.source = some x) = true)
        ∧ ((s.sourceLink x).link.live = true → t.input x = ((s.input x).join ⟨p, .releaseAll⟩).start)
        ∧ t = { s.heardDesk d with
            controls := t.controls, targets := t.targets, inputs := s.inputs.set x (t.input x), notices := t.notices
            sent := t.sent, marks := t.marks })

/-- RELEASE, WITHDRAW and FORCE_RELEASE end what they name.  From 04_input_control sections 4.5, 4.6 and 4.9,
05_keyboard_and_pointer_path sections 5.1, 5.3 and 5.5, 09_supervisory_line_and_room_lock section 9.3. -/
def Obligations.ReleaseFreesSource : Prop :=
  ∀ (s : State) (d : Desk) (n : Byte) (x : Source) (t0 : Time),
    let freed (t : State) : Prop := t.controls = s.controls.set x { control := .free, claims := [] } ∧ t.target d = none
      ∧ (∀ e, e ≠ d → t.target e = s.target e)
      ∧ t.inputs = (if (s.sourceLink x).link.live then s.inputs.set x ((s.input x).join ⟨d, .releaseAll⟩).start else s.inputs)
      ∧ t.conns = s.conns ∧ t.positions = s.positions ∧ t.sourceLinks = s.sourceLinks ∧ SameSetup s t
    let held : Prop := s.controlRecord x = { control := .held .exclusive d t0, claims := [] } ∧ s.noRelationBut d x = true
      ∧ s.target d = some x
    s.quiet →
    (s.canAsk d false = true →
      (held → Runs (.release d [n]) s fun t => freed t ∧ t.deskLinks = (s.heardDesk d).deskLinks
        ∧ t.sent = s.sent ++ [.deskResponse d n ⟨.done, 0x1A, .noDetail, []⟩, .deskLed d none 0])
      ∧ ((∀ y, s.drives d y = false) →
          exec (.release d [n]) s = .next ((s.heardDesk d).responded d n 0x1A .refused .notHolder []))
      ∧ ((∀ y, (s.claims y).any (·.desk = d) = false) →
          exec (.withdraw d [n]) s = .next ((s.heardDesk d).responded d n 0x1B .refused .notMember []))
      ∧ ((s.claims x).any (·.desk = d) = true → (∀ y, y ≠ x → (s.claims y).any (·.desk = d) = false) →
          Runs (.withdraw d [n]) s fun t => t = { (s.heardDesk d).responded d n 0x1B .done .noDetail [] with
            controls := s.controls.set x { control := s.control x, claims := (s.claims x).filter (·.desk ≠ d) }
            marks := t.marks } ∧ t.marks.desks[d] = true ∧ t.marks.sources[x] = true))
    ∧ (s.command = none →
      (held → Runs (.forceRelease [byte x]) s fun t => freed t ∧ t.deskLinks = s.deskLinks
        ∧ t.sent = s.sent ++ (if (s.deskLink d).link.live then (if s.noticeList d = [] then [.deskNotice d ⟨.forced, some x, none, false⟩] else []) else [])
          ++ .supervisory ⟨.done, 0x3A, .noDetail, []⟩ :: (if (s.deskLink d).link.live then [.deskLed d none 0] else [])
        ∧ ((s.deskLink d).link.live = true → (t.noticeList d).any (fun a => a.kind = .forced ∧ a.source = some x) = true))
      ∧ (s.control x = .free →
          exec (.forceRelease [byte x]) s = .next (s.heardSupervisor.answered 0x3A .done .notHeld [])))

/-- At the control timeout an idle holder gives way to the first claim.  From 04_input_control sections 4.6 and 4.7,
06_desk_ports section 6.5. -/
def Obligations.IdleHolderGivesWay : Prop :=
  ∀ (s : State) (x : Source) (d : Desk) (t0 : Time) (c : Claim) (m : Mode) (ms : List Desk),
    let due := t0 + 1000 * (s.settings.sources[x]).controlTimeout
    let timed : Prop := (s.settings.sources[x]).controlTimeout ≠ 0
    (s.powered = true → (s.settings.sources[x]).controlTimeout = 0 → exec (.controlTimeoutReached x) s = .next s.settle)
    ∧ (s.powered = true → s.control x = .free ∨ s.control x = .shared ms → exec (.controlTimeoutReached x) s = .next s.settle)
    ∧ (s.powered = true → timed → s.control x = .held m d t0 → s.claims x = [] ∨ s.lockHas (·.control) = true →
        exec (.controlTimeoutReached x) s = .next { s with now := max s.now due }.settle)
    ∧ (s.quiet → timed → s.lockHas (·.control) = false → s.controlRecord x = { control := .held .exclusive d t0, claims := [c] } →
        c.mode = .exclusive → c.desk ≠ d → (s.deskLink c.desk).link.live = true →
        (∃ q ∈ s.conns, q.screen.desk = c.desk ∧ q.head.source = x ∧ q.state ≠ .fault) →
        (s.right c.desk x).atLeast .control = true → s.noRelationBut d x = true → s.noRelationBut c.desk x = true →
        Runs (.controlTimeoutReached x) s fun t =>
          t.controls = s.controls.set x { control := .held .exclusive c.desk (max s.now due), claims := [] }
          ∧ t.target c.desk = some x ∧ (s.target d = some x → t.target d = none) ∧ t.now = max s.now due
          ∧ ((s.deskLink d).link.live = true → (t.noticeList d).any (fun a => a.kind = .idleReleased ∧ a.source = some x) = true)
          ∧ (t.noticeList c.desk).any (fun a => a.kind = .granted ∧ a.source = some x) = true
          ∧ t.conns = s.conns ∧ t.positions = s.positions ∧ t.sourceLinks = s.sourceLinks ∧ t.deskLinks = s.deskLinks
          ∧ SameSetup s t)

/-- NOTICE_ACK and the queries of a desk are answered at once, whatever stands.  From 06_desk_ports sections 6.4 to
6.6, 11_frame_layouts sections 11.1 and 11.4. -/
def Obligations.ImmediateRequestsAnswered : Prop :=
  ∀ (s : State) (d : Desk) (n : Byte) (k : ScreenIx) (x : Source) (b : Byte) (rest : List Notice) (front : Notice),
    s.powered = true →
    let u := s.heardDesk d
    ((s.deskLink d).link.live = false →
      exec (.noticeAck d [n]) s = .next u ∧ exec (.queryScreen d [n, b]) s = .next u ∧ exec (.querySource d [n, b]) s = .next u
      ∧ exec (.queryDesk d [n]) s = .next u)
    ∧ ((s.deskLink d).link.live = true →
      (s.noticeList d = [] → exec (.noticeAck d [n]) s = .next (u.responded d n 0x20 .refused .wrongState []))
      ∧ (s.noticeList d = front :: rest → exec (.noticeAck d [n]) s = .next { u with
          notices := s.notices.set d rest
          sent := s.sent ++ .deskResponse d n ⟨.done, 0x20, .noDetail, [byte rest.length]⟩
            :: (rest.head?.map fun a => Sent.deskNotice d a).toList })
      ∧ ((s.deskLink d).screenCount ≤ b.toNat ∨ 4 ≤ b.toNat →
          exec (.queryScreen d [n, b]) s = .next (u.responded d n 0x21 .refused .badArgument []))
      ∧ (k.val < (s.deskLink d).screenCount →
          exec (.queryScreen d [n, byte k]) s = .next (u.responded d n 0x21 .done .noDetail (u.screenReport ⟨d, k⟩)))
      ∧ (24 ≤ b.toNat → exec (.querySource d [n, b]) s = .next (u.responded d n 0x22 .refused .badArgument []))
      ∧ (s.right d x = .noRight →
          exec (.querySource d [n, byte x]) s = .next (u.responded d n 0x22 .refused .noRight []))
      ∧ (s.right d x ≠ .noRight →
          exec (.querySource d [n, byte x]) s = .next (u.responded d n 0x22 .done .noDetail (u.sourceReport x)))
      ∧ exec (.queryDesk d [n]) s = .next (u.responded d n 0x23 .done .noDetail (u.deskReport d)))

/-- A desk is LOST for its grace period, and goes DOWN with no records at its end or at a PORT_RESET.  From
06_desk_ports sections 6.1 and 6.3, 01_the_connection_table section 1.10, 09_supervisory_line_and_room_lock
section 9.3. -/
def Obligations.DeskIsLostOrGoesDown : Prop :=
  ∀ (s : State) (d : Desk) (due expiry : Time) (n kind : Byte),
    let alone : Prop := s.quiet ∧ s.Bounded ∧ ∀ y, s.drives d y = false ∧ (s.claims y).any (·.desk = d) = false
    let l := s.deskLink d
    let grace := (s.settings.desks[d]).grace
    -- a new record that the desk's request brings up and whose route has not been applied
    let fresh (c : Conn) : Prop := c.answerTo = some .desk ∧ c.step ≠ some .lock ∧ c.prior = none
    let asked : Option Conn :=
      if (s.stack d).executing.any (·.phase = .inFlight) then s.conns.find? fun c => c.screen.desk = d && c.answerTo = some .desk
      else none
    let lost (t : State) (now : Time) : Prop :=
      t.deskLinks = s.deskLinks.set d {
        link := if grace = 0 then .down else .lost, screenCount := l.screenCount, initialTimer := none, silenceTimer := none
        graceTimer := if grace = 0 then none else some (now + 1000 * grace), frameSince := false }
      ∧ t.sourceLinks = s.sourceLinks ∧ t.now = now ∧ SameSetup s t
      ∧ (alone →
          t.stack d = { executing := none, waiting := none } ∧ t.noticeList d = []
          ∧ (grace = 0 → t.conns.map Conn.core = (s.conns.filter fun c => c.screen.desk ≠ d).map Conn.core)
          ∧ (grace ≠ 0 →
            (∀ c ∈ t.conns, c.screen.desk = d → c.state = .suspended .deskAbsent ∧ c.reservation = 0)
            ∧ ∀ c ∈ s.conns, (c.screen.desk ≠ d → (t.conn? c.handle).map Conn.core = some c.core)
              ∧ (c.screen.desk = d → ¬ fresh c → (t.conn? c.handle).map Conn.core
                  = some (c.screen, c.head, .suspended .deskAbsent, c.origin, none)
                ∧ t.isDue c.screen (.card .blank) = true ∧ (c.state = .switching → c.step = some .lock ∨ c.prior = none →
                  (t.position c.screen).lockTimer = none))
              ∧ (asked = some c → fresh c → t.conn? c.handle = none)))
    let emptied (t : State) : Prop := t.sourceLinks = s.sourceLinks ∧ SameSetup s t ∧ (alone →
      (∀ c ∈ t.conns, c.screen.desk ≠ d)
      ∧ t.conns.map Conn.core = (s.conns.filter fun c => c.screen.desk ≠ d).map Conn.core)
    s.powered = true →
    (l.link = .up → l.silenceTimer = some due → Runs (.deskSilenceTimerExpiry d) s fun t => lost t (max s.now due))
    ∧ (l.link = .initial → l.initialTimer = some due → l.frameSince = false →
        Runs (.deskInitialTimerExpiry d) s fun t => lost t (max s.now due))
    ∧ (l.link.live = true → Runs (.deskLinkLoss d) s fun t => lost t s.now)
    ∧ (l.link ≠ .up → exec (.deskSilenceTimerExpiry d) s = .next s.settle)
    ∧ (l.link.live = false →
        exec (.deskLinkLoss d) s = .next { s with deskReceivers := s.deskReceivers.set d .hunting }.settle)
    ∧ (l.graceTimer = some expiry → Runs (.graceTimerExpiry d) s fun t =>
      t.deskLinks = s.deskLinks.set d { l with link := .down, graceTimer := none } ∧ t.now = max s.now expiry ∧ emptied t)
    ∧ (l.graceTimer = none → exec (.graceTimerExpiry d) s = .next s.settle)
    ∧ (s.command = none →
      (Runs (.portReset [0, byte d]) s fun t =>
        (t.deskLink d).link = .down ∧ (t.deskLink d).screenCount = 4 ∧ (t.deskLink d).graceTimer = none
        ∧ (l.link.live = true → (t.deskLink d).initialTimer = none ∧ (t.deskLink d).silenceTimer = none)
        ∧ (∀ e, e ≠ d → t.deskLink e = s.deskLink e) ∧ t.marks.desks[d] = true
        ∧ .supervisory ⟨.done, 0x3B, .noDetail, []⟩ ∈ t.sent ∧ t.now = s.now ∧ emptied t)
      ∧ (1 < kind.toNat ∨ kind = 0 ∧ 16 ≤ n.toNat ∨ kind = 1 ∧ 24 ≤ n.toNat →
        exec (.portReset [kind, n]) s = .next (s.heardSupervisor.answered 0x3B .refused .badArgument []).settle))

/-- The house frame event applies every pending change at once.  From 01_the_connection_table sections 1.4, 1.5 and
1.8. -/
def Obligations.HouseFrameAppliesPending : Prop :=
  ∀ (s : State),
    let locks (scr : ScreenId) : Bool := match (s.position scr).pending, s.screenConn scr with
      | some (.route _), some c => c.state = .switching
      | _, _ => false
    let awaits (d : Desk) : Option Request := match (s.stack d).executing with
      | some e => if e.phase = .frame then some e.request else none
      | none => none
    let forced : Bool := match s.command with
      | some (.forceDisconnect _ .frame) => true
      | _ => false
    s.quiet → s.Bounded → Runs .houseFrameEvent s fun t =>
      (∀ scr, t.position scr = {
        shown := (s.position scr).pending.getD (s.position scr).shown
        pending := none
        lockTimer := if locks scr then some (s.now + s.settings.room.lockTimeout) else (s.position scr).lockTimer })
      ∧ t.conns = (s.conns.map fun c =>
          if locks c.screen ∧ s.screenConn c.screen = some c ∧ c.step = some .switch then { c with step := some .lock } else c)
      ∧ (∀ d, t.stack d = { s.stack d with executing := if (awaits d).isSome then none else (s.stack d).executing })
      ∧ t.command = (if forced then none else s.command)
      ∧ t.sent = s.sent ++ ((List.finRange 16).flatMap fun d => match awaits d with
          | some r => if (s.deskLinks[d]).link.live then [.deskResponse d r.number ⟨.done, r.body.kind, .noDetail, []⟩] else []
          | none => []) ++ (if forced then [.supervisory ⟨.done, 0x39, .noDetail, []⟩] else [])
      ∧ t = { s with
          frameRate := s.settings.room.houseRate, positions := t.positions, conns := t.conns, requests := t.requests
          command := t.command, sent := t.sent }

/-- At the end of the restoration delay a walk begins, which lowers the first head it can.  From 03_budgets_and_tiers
section 3.7. -/
def Obligations.RestorationDelayEnds : Prop :=
  ∀ (s : State) (x : Source) (hd : HeadIx) (due expiry : Time) (old : RoomLock) (w : Walk),
    let h : HeadId := ⟨x, hd⟩
    let tested (g : HeadId) : Bool := s.carried g && (s.settings.sources[g.source]).preferredTier < (s.tier g).tier
      && (s.tier g).change.isNone
    let lowered (g : HeadId) : Bool := tested g && s.lowerFits g
    let opened (t : State) (now : Time) : Prop :=
      t.restoration = .walking { next := headPlace h + 1, mine := some h, stopped := none, acked := false, timedOut := [] }
      ∧ t.expiredUnderLock = false
      ∧ (t.tier h).change = some ⟨(s.tier h).tier, (s.tier h).tier - 1, .restoration, now + 500⟩
      ∧ (t.tier h).tier = (s.tier h).tier ∧ (∀ g, g ≠ h → t.tier g = s.tier g)
      ∧ t.conns.map Conn.core = s.conns.map Conn.core ∧ t.controls = s.controls
      ∧ t.sourceLinks = s.sourceLinks ∧ t.deskLinks = s.deskLinks ∧ t.now = now
    (s.powered = true → s.restoration.delayTimer = none → exec .restorationDelayExpiry s = .next s.settle)
    ∧ (s.quiet → s.restoration = .delaying due →
      (s.lockHas (·.tiers) = true → s.restorationInFlight = false →
        ((∀ g, tested g = false) → exec .restorationDelayExpiry s = .next { s with
            now := max s.now due, restoration := .idle, expiredUnderLock := true })
        ∧ (tested h = true → (∀ g, headPlace g < headPlace h → tested g = false) →
          exec .restorationDelayExpiry s = .next { s with
            now := max s.now due, expiredUnderLock := true
            restoration := .walking { next := headPlace h, mine := none, stopped := some h, acked := false, timedOut := [] } }))
      ∧ (s.lockHas (·.tiers) = false → s.restorationInFlight = false →
        ((∀ g, lowered g = false) → exec .restorationDelayExpiry s = .next { s with
            now := max s.now due, restoration := .idle, expiredUnderLock := false })
        ∧ (lowered h = true → (∀ g, headPlace g < headPlace h → lowered g = false) →
          Runs .restorationDelayExpiry s fun t => opened t (max s.now due) ∧ t.sent = s.sent ∧ SameSetup s t)))
    -- the end of a lock: a walk from the start where the delay expired under it, else on from the head it stopped at
    ∧ (({ s with restoration := .idle } : State).quiet → s.restorationInFlight = false → s.roomLock = some old →
      old.sens.tiers = true → old.sens.control = false →
      (s.expiredUnderLock = true ∨ s.restoration = .walking w ∧ w.mine = none ∧ w.stopped.isSome ∧ w.acked = false ∧ w.timedOut = []) →
      let start := if s.expiredUnderLock = true then 0 else w.next
      let ends (c : Instr) (now : Time) : Prop :=
        ((∀ g, start ≤ headPlace g → lowered g = false) →
          Runs c s fun t => t.restoration = .idle ∧ t.tiers = s.tiers ∧ t.roomLock = none ∧ t.expiredUnderLock = false)
        ∧ (lowered h = true → start ≤ headPlace h → (∀ g, start ≤ headPlace g → headPlace g < headPlace h → lowered g = false) →
          Runs c s fun t => opened t now ∧ t.roomLock = none)
      (s.command = none → ends (.unlock []) s.now)
      ∧ (old.due = some expiry → ends .durationTimerExpiry (max s.now expiry)))

/-- At the end of a dwell a scan steps to the next entry that qualifies, or starts its dwell again.  From
07_scan_lists sections 7.3 and 7.4. -/
def Obligations.DwellExpiryStepsScan : Prop :=
  ∀ (s : State) (d : Desk) (k : ScreenIx) (c : Conn) (q : Scan) (due : Time) (m : Nat) (h : HeadId),
    let scr : ScreenId := ⟨d, k⟩
    let fit (g : HeadId) : Bool := s.headExists g && s.headActive g && decide (g ≠ c.head) && !s.privateToOther g.source d
      && (s.right d g.source).atLeast .view && s.fitsNow [⟨g, scr⟩]
    -- the places of the list in the order of the search, from 0
    let order : List Nat := (List.range q.list.length).filter (fun i => q.index ≤ i) ++ (List.range q.list.length).filter (fun i => i + 1 < q.index)
    let fits (i : Nat) : Bool := (q.list[i]?).any fit
    (s.powered = true → (s.dwellTimer scr) = none → exec (.dwellExpiry d k) s = .next s.settle)
    ∧ (s.calm = true → s.Bounded → s.screenConn scr = some c → c.scan = some q → q.timer = .running due → c.inFlight = false →
      (c.state = .live ∨ c.state = .waiting ∨ c.state = .fault ∨ c.state = .suspended .budget ∨ c.state = .suspended .privacy) →
      ((∀ i ∈ order, fits i = false) → s.drives d c.head.source = false → s.lockHas (·.scans) = false →
        Runs (.dwellExpiry d k) s fun t =>
          t.conn? c.handle = some { c with scan := some { q with timer := .running (max s.now due + 1000 * q.dwell), paused := false } }
          ∧ SameRecordsBut c.handle s t ∧ t.now = max s.now due ∧ t.sent = s.sent
          ∧ t = { s with now := t.now, conns := t.conns, marks := t.marks })
      ∧ (order.find? fits = some (m - 1) → q.list[m - 1]? = some h → 1 ≤ m →
        h.source = c.head.source ∨ s.drives d c.head.source = false ∧ (s.claims c.head.source).any (·.desk = d) = false →
        Runs (.dwellExpiry d k) s fun t =>
          (t.conn? c.handle).map Conn.core = some (scr, h, .switching, c.origin, some .switch)
          ∧ (t.conn? c.handle).bind (·.scan) = some { q with index := m, timer := .frozen 0 }
          ∧ (t.conn? c.handle).map (·.reservation) = some (t.headCharge h)
          ∧ ((s.deskLink d).link.live = true → (t.position scr).pending = some (.route h)) ∧ (t.position scr).lockTimer = none
          ∧ SameRecordsBut c.handle s t ∧ t.now = max s.now due ∧ t.sent = s.sent ∧ t.controls = s.controls
          ∧ t.sourceLinks = s.sourceLinks ∧ t.deskLinks = s.deskLinks ∧ SameSetup s t))

/-- ARM, DISARM, the arm hold and COMMIT of a staging slot.  From 08_staged_layouts_and_salvos sections 8.1 to 8.4,
09_supervisory_line_and_room_lock section 9.4. -/
def Obligations.SlotArmsDisarmsCommits : Prop :=
  ∀ (s : State) (i : SlotIx) (es : List SlotEntry) (e : SlotEntry) (due : Time) (m : Nat),
    let q := s.slot i
    let held (t : State) : Prop := t.conns.map Conn.core = s.conns.map Conn.core ∧ t.controls = s.controls
      ∧ t.sourceLinks = s.sourceLinks ∧ t.deskLinks = s.deskLinks ∧ SameSetup s t ∧ ∀ j, j ≠ i → t.slot j = s.slot j
    s.quiet →
    (s.command = none →
      (q.state ≠ .loaded → exec (.arm [byte i]) s = .next (s.heardSupervisor.answered 0x42 .refused .wrongState []))
      ∧ (q.state ≠ .armed → exec (.disarm [byte i]) s = .next (s.heardSupervisor.answered 0x44 .refused .wrongState [])
          ∧ exec (.commit [byte i]) s = .next (s.heardSupervisor.answered 0x43 .refused .wrongState []))
      ∧ (q.state = .loaded → q.owner = some .supervisor → q.entries = es →
        ((∀ e ∈ es, s.entryReady .supervisor e.entry = true) → Runs (.arm [byte i]) s fun t =>
            t.slot i = { q with
              state := .armed, failure := none, holdTimer := some (s.now + 1000 * s.settings.room.armHold)
              entries := es.map fun e => { e with charged := false, marks := true } }
            ∧ t.sent = s.sent ++ [.supervisory ⟨.done, 0x42, .noDetail, []⟩] ∧ t.command = none
            ∧ t.positions = s.positions ∧ held t)
        ∧ ((∀ e ∈ es, s.entryPasses .supervisor e.entry = true) →
          let pl := s.activePlacements (placementsOf es)
          let found := s.raiseLoop pl 288 []
          (∀ p ∈ pl, (s.tier p.head).change = none) →
          (s.fits [] pl = true → Runs (.arm [byte i]) s fun t =>
            t.slot i = { q with
              state := .armed, failure := none, holdTimer := some (s.now + 1000 * s.settings.room.armHold)
              entries := es.map fun e => { e with charged := s.entryActive e.entry, marks := true } }
            ∧ (∀ p ∈ pl, t.carried p.head = true) ∧ t.sent = s.sent ++ [.supervisory ⟨.done, 0x42, .noDetail, []⟩]
            ∧ t.command = none ∧ t.admissions = [] ∧ t.tiers = s.tiers ∧ t.positions = s.positions ∧ held t)
          ∧ (s.fits [] pl = false → s.fits found pl = true → Runs (.arm [byte i]) s fun t =>
            t.slot i = { q with arming := some .supervisor }
            ∧ t.admissions = [⟨s.nextAdmission, .arming i, pl, .own⟩]
            ∧ (∀ g, (t.tier g).tier = (s.tier g).tier ∧ (t.tier g).change = match found.find? (·.1 = g) with
                | some p => some { old := (s.tier g).tier, new := p.2, origin := .admission s.nextAdmission, due := s.now + 500 }
                | none => (s.tier g).change)
            ∧ t.sent = s.sent ∧ t.command = some (.arm i) ∧ t.positions = s.positions ∧ held t)
          ∧ (s.fits [] pl = false →
            (∀ g ∈ s.overflowing [] pl, s.tierLimit g ≤ (s.tier g).tier ∧ (s.tier g).change = none) →
            (es.take m).any (fun e => s.entryOverflows pl e.entry) = false →
            es[m]?.any (fun e => s.entryOverflows pl e.entry) = true → Runs (.arm [byte i]) s fun t =>
              t = { s.heardSupervisor.answered 0x42 .failed .noBandwidth [byte (m + 1)] with
                slots := s.slots.set i { q with failure := some (m + 1, .noBandwidth) }
                nextAdmission := t.nextAdmission, marks := t.marks }))
        -- the first entry that fails a check, with the first check that it fails
        ∧ ((∀ f ∈ es.take m, s.entryPasses .supervisor f.entry = true) → es[m]? = some e →
          let scr := e.entry.screen
          let live := (s.deskLink scr.desk).link.live
          let known : Prop := s.screenExists scr = true ∧ ∀ h, e.entry.target = .head h → s.headExists h = true
          let marked := (s.markedBy scr).isSome
          let failed (reason : Detail) : Prop := Runs (.arm [byte i]) s fun t =>
            t = { s.heardSupervisor.answered 0x42 .failed reason [byte (m + 1)] with
              slots := s.slots.set i { q with failure := some (m + 1, reason) }, marks := t.marks }
          (live = false → failed .deskAbsent)
          ∧ (live = true → ¬ known → failed .badArgument)
          ∧ (live = true → known → marked = true → failed .overlap)
          ∧ (live = true → known → marked = false →
              (e.entry.target.head?.any fun h => s.privateToOther h.source scr.desk) = true → failed .privateInUse)))
      ∧ (q.state = .armed → Runs (.disarm [byte i]) s fun t =>
          t.slot i = { q with
            state := .loaded, holdTimer := none, failure := none
            entries := q.entries.map fun e => { e with charged := false, marks := false } }
          ∧ t.sent = s.sent ++ [.supervisory ⟨.done, 0x44, .noDetail, []⟩] ∧ t.command = none
          ∧ t.positions = s.positions ∧ held t)
      ∧ (q.state = .armed → (q.entries.map (·.entry.screen)).Nodup → Runs (.commit [byte i]) s fun t =>
          t.slot i = { q with state := .committing, stage := some .beforeEvent, holdTimer := none }
          ∧ (∀ e ∈ q.entries, t.isDue e.entry.screen (s.entryContent e) = true)
          ∧ (∀ r, (∀ e ∈ q.entries, e.entry.screen ≠ r) → t.position r = s.position r)
          ∧ t.sent = s.sent ∧ t.command = some (.commit i) ∧ t.conns = s.conns ∧ held t))
    ∧ (q.holdTimer = none ∨ q.state ≠ .armed → exec (.armHoldTimerExpiry i) s = .next s)
    ∧ (q.state = .armed → q.holdTimer = some due → Runs (.armHoldTimerExpiry i) s fun t =>
        t.slot i = { q with
          state := .loaded, holdTimer := none, failure := some (0, .holdExpired)
          entries := q.entries.map fun e => { e with charged := false, marks := false } }
        ∧ t.sent = s.sent ∧ t.command = s.command ∧ t.positions = s.positions ∧ t.now = max s.now due ∧ held t)

/-- SET_DESK clamps and sets the selected fields, SET_RIGHTS the named cells.  From 09_supervisory_line_and_room_lock
sections 9.1 and 9.2, 04_input_control section 4.2, 11_frame_layouts section 11.6. -/
def Obligations.SetDeskAndRights : Prop :=
  ∀ (s : State) (d : Desk) (x : Source) (fs n a b g0 g1 : Byte) (l : List (Source × Right)) (w : List (Byte × Byte)),
    s.powered = true → s.command = none →
    let o := s.settings.desks[d]
    let rank := if fs.getLsbD 0 then min 7 a.toNat else o.rank
    let link := if fs.getLsbD 1 then max 1 (min 30 b.toNat) else o.linkTimeout
    let grace := if fs.getLsbD 2 then min 600 (word16 g0 g1) else o.grace
    let adjusted := fs.getLsbD 0 && decide (7 < a.toNat) || fs.getLsbD 1 && (decide (b.toNat < 1) || decide (30 < b.toNat))
      || fs.getLsbD 2 && decide (600 < word16 g0 g1)
    let kept (t : State) : Prop := t.roomLock = s.roomLock ∧ t.sourceLinks = s.sourceLinks ∧ t.deskLinks = s.deskLinks
      ∧ t.store.region = s.store.region ∧ t.store.op = s.store.op ∧ t.now = s.now
    (Runs (.setDesk [byte d, fs, a, b, g0, g1]) s fun t =>
      t.settings = { s.settings with desks := s.settings.desks.set d { rank := rank, linkTimeout := link, grace := grace } }
      ∧ .supervisory ⟨.done, 0x32, if adjusted then .adjusted else .noDetail,
          (if fs.getLsbD 0 then [byte rank] else []) ++ (if fs.getLsbD 1 then [byte link] else [])
            ++ (if fs.getLsbD 2 then le16 grace else [])⟩ ∈ t.sent
      ∧ (t.settings ≠ s.settings → t.marks.desks[d] = true) ∧ kept t
      -- the desk's claim carries the new rank, and its queue is sorted anew
      ∧ (s.quiet → (∀ y, y ≠ x → (s.claims y).any (·.desk = d) = false) →
        let q := (s.claims x).map fun c => if c.desk = d then { c with rank := rank } else c
        (∀ y, y ≠ x → t.claims y = s.claims y)
        ∧ ((s.claims x).any (·.desk = d) = false ∨ rank = o.rank → t.claims x = s.claims x)
        ∧ ((s.claims x).any (·.desk = d) = true → rank ≠ o.rank → t.claims x = sortClaims q ∧ (t.claims x).Perm q
          ∧ (q.Pairwise (fun c e => c.stamp ≠ e.stamp) → (t.claims x).Pairwise Claim.before))
        ∧ (t.claims x ≠ s.claims x → t.marks.sources[x] = true) ∧ ∀ y, t.control y = s.control y))
    ∧ (1 ≤ l.length → l.length ≤ 24 →
      Runs (.setRights (byte d :: byte l.length :: l.flatMap fun p => [byte p.1, byte p.2.code])) s fun t =>
        t.settings = { s.settings with rights := s.settings.rights.set d t.settings.rights[d] }
        -- the later of two pairs for one source; a cell not named stands
        ∧ (∀ y : Source, t.settings.rights[d][y] = match l.reverse.find? (·.1 = y) with
            | some p => p.2
            | none => s.settings.rights[d][y])
        ∧ .supervisory ⟨.done, 0x34, .noDetail, byte l.length :: l.map fun p => byte (t.settings.rights[d][p.1]).code⟩ ∈ t.sent
        ∧ (t.settings ≠ s.settings → t.marks.desks[d] = true) ∧ kept t)
    ∧ (16 ≤ n.toNat → exec (.setDesk [n, fs, a, b, g0, g1]) s = .next (s.heardSupervisor.answered 0x32 .refused .badArgument []).settle
      ∧ exec (.setRights (n :: byte l.length :: l.flatMap fun p => [byte p.1, byte p.2.code])) s
        = .next (s.heardSupervisor.answered 0x34 .refused .badArgument []).settle)
    ∧ (w = [] ∨ 24 < w.length ∨ (∃ p ∈ w, 24 ≤ p.1.toNat ∨ 5 ≤ p.2.toNat) →
      exec (.setRights (byte d :: byte w.length :: w.flatMap fun p => [p.1, p.2])) s
        = .next (s.heardSupervisor.answered 0x34 .refused .badArgument []).settle)

/-- SET_SOURCE and SET_ROOM clamp and set the selected fields; a changed preferred tier reaches the source's heads.  The TIER_SETs go
in ascending head order, the model's choice (log entry 48).  From 09_supervisory_line_and_room_lock sections 9.1 and 9.2,
03_budgets_and_tiers section 3.5, 05_keyboard_and_pointer_path section 5.4, 11_frame_layouts section 11.6. -/
def Obligations.SetSourceAndRoom : Prop :=
  ∀ (s : State) (x : Source) (fs a b c e f g j q y : Byte) (pr : Option PresetIx),
    s.powered = true → s.command = none →
    let o := s.settings.sources[x]
    let limit : Tier := if fs.getLsbD 1 then tierOf b.toNat else o.tierLimit
    let asked : Tier := if fs.getLsbD 2 then tierOf c.toNat else o.preferredTier
    let preferred : Tier := min limit asked
    let control := word16 e f
    let share := word16 g j
    let link := if fs.getLsbD 0 then max 1 (min 30 a.toNat) else o.linkTimeout
    let timeout := if fs.getLsbD 3 then (if control = 0 then 0 else max 5 (min 3600 control)) else o.controlTimeout
    let interval := if fs.getLsbD 4 then max 200 (min 5000 share) else o.shareInterval
    let clamped := fs.getLsbD 0 && (decide (a.toNat < 1) || decide (30 < a.toNat)) || fs.getLsbD 1 && decide (3 < b.toNat)
      || fs.getLsbD 2 && decide (c.toNat ≠ preferred.val) || !fs.getLsbD 2 && decide (preferred ≠ o.preferredTier)
      || fs.getLsbD 3 && (decide (1 ≤ control ∧ control ≤ 4) || decide (3600 < control))
      || fs.getLsbD 4 && (decide (share < 200) || decide (5000 < share))
    let bound := (List.finRange 4).any fun k => s.carried ⟨x, k⟩ || s.staged ⟨x, k⟩ || s.holds ⟨x, k⟩
    let changes : Prop := limit ≠ o.tierLimit ∧ fs.getLsbD 1 = true ∨ preferred ≠ o.preferredTier ∧ fs.getLsbD 2 = true
    let setSource : Instr := .setSource [byte x, fs, a, b, c, e, f, g, j]
    let w := s.settings.room
    let rate := if fs.getLsbD 0 then max 24 (min 120 a.toNat) else w.houseRate
    let lock := if fs.getLsbD 1 then max 100 (min 2000 (word16 g j)) else w.lockTimeout
    let delay := if fs.getLsbD 2 then min 60 q.toNat else w.restorationDelay
    let hold := if fs.getLsbD 3 then max 10 (min 300 (word16 e f)) else w.armHold
    let start := if fs.getLsbD 4 then pr else w.startPreset
    let room : RoomSettings := {
      houseRate := rate, lockTimeout := lock, restorationDelay := delay, armHold := hold, startPreset := start }
    let adjusted := fs.getLsbD 0 && (decide (a.toNat < 24) || decide (120 < a.toNat))
      || fs.getLsbD 1 && (decide (word16 g j < 100) || decide (2000 < word16 g j)) || fs.getLsbD 2 && decide (60 < q.toNat)
      || fs.getLsbD 3 && (decide (word16 e f < 10) || decide (300 < word16 e f))
    (changes ∧ bound = true → exec setSource s = .next (s.heardSupervisor.answered 0x33 .refused .sourceCarried []).settle)
    ∧ (¬ (changes ∧ bound = true) → Runs setSource s fun t =>
      t.settings = { s.settings with sources := s.settings.sources.set x {
        linkTimeout := link, tierLimit := limit, preferredTier := preferred, controlTimeout := timeout, shareInterval := interval } }
      ∧ .supervisory ⟨.done, 0x33, if clamped then .adjusted else .noDetail,
          (if fs.getLsbD 0 then [byte link] else []) ++ (if fs.getLsbD 1 then [byte limit] else [])
            ++ (if fs.getLsbD 2 then [byte preferred] else []) ++ (if fs.getLsbD 3 then le16 timeout else [])
            ++ (if fs.getLsbD 4 then le16 interval else [])⟩ ∈ t.sent
      ∧ (t.settings ≠ s.settings → t.marks.sources[x] = true)
      ∧ t.roomLock = s.roomLock ∧ t.sourceLinks = s.sourceLinks ∧ t.deskLinks = s.deskLinks ∧ t.now = s.now
      -- a changed preferred tier is that of every head of the source at once, and named to each head below the head count
      ∧ (s.quiet → timeout = o.controlTimeout →
        let named (k : HeadIx) : Bool := (s.sourceLink x).link.live && decide (k.val < (s.sourceLink x).headCount)
        (preferred = o.preferredTier → t.tiers = s.tiers ∧ t.inputs = s.inputs)
        ∧ (preferred ≠ o.preferredTier →
          (∀ k, t.tier ⟨x, k⟩ = { s.tier ⟨x, k⟩ with
              tier := preferred, lastNamed := if named k then some preferred else (s.tier ⟨x, k⟩).lastNamed })
          ∧ (∀ z k, z ≠ x → t.tier ⟨z, k⟩ = s.tier ⟨z, k⟩)
          ∧ t.inputs = s.inputs.set x ((s.input x).withTierSets (((List.finRange 4).filter named).map fun k => (k, preferred))))))
    ∧ exec (.setRoom [fs, a, g, j, q, e, f, startPresetByte pr]) s = .next { s.heardSupervisor.answered 0x35 .done
          (if adjusted then .adjusted else .noDetail)
          ((if fs.getLsbD 0 then [byte rate] else []) ++ (if fs.getLsbD 1 then le16 lock else [])
            ++ (if fs.getLsbD 2 then [byte delay] else []) ++ (if fs.getLsbD 3 then le16 hold else [])
            ++ (if fs.getLsbD 4 then [startPresetByte start] else [])) with
        settings := { s.settings with room := room }
        marks := { s.marks with room := s.marks.room || decide (w ≠ room) } }.settle
    ∧ (24 ≤ y.toNat → exec (.setSource [y, fs, a, b, c, e, f, g, j]) s
        = .next (s.heardSupervisor.answered 0x33 .refused .badArgument []).settle)
    ∧ (32 ≤ y.toNat → y ≠ 255 → fs.getLsbD 4 = true → exec (.setRoom [fs, a, g, j, q, e, f, y]) s
        = .next (s.heardSupervisor.answered 0x35 .refused .badArgument []).settle)
    ∧ (fs.getLsbD 4 = false → exec (.setRoom [fs, a, g, j, q, e, f, y]) s = exec (.setRoom [fs, a, g, j, q, e, f, 255]) s)

/-- A FORCE_CONNECT on an empty screen creates a record for a desk that is there or not.  From 01_the_connection_table
section 1.12, 09_supervisory_line_and_room_lock section 9.3, 06_desk_ports section 6.5. -/
def Obligations.ForceConnectOnEmptyScreen : Prop :=
  ∀ (s : State) (d : Desk) (k : ScreenIx) (x : Source) (hd : HeadIx) (h : Handle),
    let scr : ScreenId := ⟨d, k⟩
    let head : HeadId := ⟨x, hd⟩
    let force : Instr := .forceConnect [byte d, byte k, byte x, byte hd]
    let record (st : RecordState) : Conn := {
      handle := h, screen := scr, head := head, state := st, reservation := 0, origin := .supervisor, step := none
      scan := none, replaces := none, answerTo := none, auto := none, posted := false, prior := none }
    s.quiet → s.Bounded → s.command = none →
    ((s.deskLink d).link.live = true ∧ s.screenExists scr = false ∨ s.headExists head = false →
      exec force s = .next (s.heardSupervisor.answered 0x38 .refused .badArgument []))
    ∧ ((s.deskLink d).link.live = false ∨ s.screenExists scr = true → s.headExists head = true →
      ((s.markedBy scr).isSome = true →
        exec force s = .next (s.heardSupervisor.answered 0x38 .refused .salvoPending []))
      ∧ (s.markedBy scr = none → s.connsAt scr = [] → s.lowestFree = some h →
        ((s.deskLink d).link.live = false → Runs force s fun t =>
          t.conn? h = some (record (.suspended .deskAbsent)) ∧ SameRecordsBut h s t
          ∧ t = { s.heardSupervisor.answered 0x38 .done .noDetail [6] with conns := t.conns, marks := t.marks })
        ∧ ((s.deskLink d).link.live = true → s.headActive head = false → s.privateToOther x d = false → Runs force s fun t =>
          t.conn? h = some (record .waiting) ∧ SameRecordsBut h s t ∧ t.isDue scr (.card (s.head head).card) = true
          ∧ (∀ r, r ≠ scr → t.position r = s.position r)
          ∧ (t.noticeList d).any (fun a => a.kind = .changed ∧ a.screen = some k) = true
          ∧ t.sent.getLast? = some (.supervisory ⟨.done, 0x38, .noDetail, [0]⟩)
          ∧ t = { s.heardSupervisor with
              conns := t.conns, positions := t.positions, notices := t.notices, sent := t.sent, marks := t.marks })
        ∧ ((s.deskLink d).link.live = true → s.privateToOther x d = true → Runs force s fun t =>
          t.conn? h = some (record (.suspended .privacy)) ∧ SameRecordsBut h s t ∧ t.isDue scr (.card .privacy) = true
          ∧ (∀ r, r ≠ scr → t.position r = s.position r)
          ∧ ((s.noticeList d).length < 3 →
            (t.noticeList d).any (fun a => a.kind = .privacy ∧ a.source = some x) = true)
          ∧ (t.noticeList d).any (fun a => a.kind = .changed ∧ a.screen = some k) = true
          ∧ (s.noticeList d = [] → t.noticeList d = [⟨.privacy, some x, none, false⟩, ⟨.changed, none, some k, false⟩])
          ∧ t.sent.getLast? = some (.supervisory ⟨.done, 0x38, .noDetail, [5]⟩)
          ∧ t = { s.heardSupervisor with
              conns := t.conns, positions := t.positions, notices := t.notices, sent := t.sent, marks := t.marks })
        ∧ ((s.deskLink d).link.live = true → s.headActive head = true → s.privateToOther x d = false →
          (s.tier head).change = none →
          (s.fitsNow [⟨head, scr⟩] = true → Runs force s fun t =>
            t.conn? h = some { record .switching with
              reservation := t.headCharge head, step := some .switch, answerTo := some .force }
            ∧ SameRecordsBut h s t ∧ (t.position scr).pending = some (.route head)
            ∧ (t.position scr).shown = (s.position scr).shown ∧ (∀ r, r ≠ scr → t.position r = s.position r)
            ∧ (t.noticeList d).any (fun a => a.kind = .changed ∧ a.screen = some k) = true
            ∧ t.sent = s.sent ++ (if s.noticeList d = [] then [.deskNotice d ⟨.changed, none, some k, false⟩] else [])
            ∧ t = { s.heardSupervisor with
                command := some (.forceConnect scr head .inFlight), nextAdmission := t.nextAdmission, conns := t.conns
                positions := t.positions, notices := t.notices, sent := t.sent, marks := t.marks })
          ∧ (s.fitsNow [⟨head, scr⟩] = false →
            (∀ g ∈ s.overflowing [] [⟨head, scr⟩], s.tierLimit g ≤ (s.tier g).tier ∧ (s.tier g).change = none) →
            s.drives d x = false → (s.claims x).any (·.desk = d) = false → Runs force s fun t =>
              t.conns.map Conn.core = s.conns.map Conn.core ∧ t.isDue scr (.card .blank) = true
              ∧ (∀ r, r ≠ scr → t.position r = s.position r)
              ∧ t = { s.heardSupervisor.answered 0x38 .failed .noBandwidth [2] with
                  nextAdmission := t.nextAdmission, conns := t.conns, positions := t.positions, marks := t.marks }))))

/-- STAGE_LOAD, PRESET_TO_STAGE and STAGE_CLEAR.  From 08_staged_layouts_and_salvos section 8.1,
09_supervisory_line_and_room_lock section 9.4, 10_stored_configuration_and_start_up section 10.4, 11_frame_layouts
sections 11.5 and 11.6. -/
def Obligations.StageLoadsAndClears : Prop :=
  ∀ (s : State) (i : SlotIx) (b c : Byte) (w : List (Byte × Byte × Byte × Byte × Byte)) (es : List StageEntry) (pr : PresetIx) (check : Nat),
    s.powered = true → s.command = none →
    let q := s.slot i
    let free : Prop := (q.state = .empty ∨ q.state = .loaded) ∧ q.arming = none
    -- the entries with the earlier of two for one screen left out
    let kept : List StageEntry := es.zipIdx.filterMap fun e =>
      if (es.drop (e.2 + 1)).any (fun g => g.screen = e.1.screen) then none else some e.1
    let load : Instr := .stageLoad (byte i :: byte es.length :: es.flatMap (·.image))
    let loaded (c : Instr) (kind : Byte) : Prop := Runs c s fun t => t = { s.heardSupervisor.answered kind .done .noDetail [byte kept.length] with
      slots := s.slots.set i {
        Slot.fresh with state := .loaded, owner := some .supervisor, entries := kept.map fun e => ⟨e, false, false⟩ }
      marks := t.marks }
    (free → s.quiet →
      (1 ≤ es.length → es.length ≤ 16 → loaded load 0x40)
      ∧ (s.store.presets[pr] = .valid es (some (checkValue (presetImage es))) → loaded (.presetToStage [byte pr, byte i]) 0x45)
      ∧ Runs (.stageClear [byte i]) s fun t => t = { s.heardSupervisor.answered 0x41 .done .noDetail [] with
          slots := s.slots.set i Slot.fresh, marks := t.marks })
    ∧ (free → (s.store.presets[pr] = .blank →
          exec (.presetToStage [byte pr, byte i]) s = .next (s.heardSupervisor.answered 0x45 .refused .badArgument []).settle)
      ∧ (s.store.presets[pr] = .valid es (some check) → check ≠ checkValue (presetImage es) →
          exec (.presetToStage [byte pr, byte i]) s = .next { s.heardSupervisor.answered 0x45 .refused .presetCorrupt [] with
            store := { s.store with presets := s.store.presets.set pr .corrupt }
            marks := { s.marks with store := true } }.settle))
    ∧ (¬ free →
      (1 ≤ es.length → es.length ≤ 16 → exec load s = .next (s.heardSupervisor.answered 0x40 .refused .wrongState []).settle)
      ∧ exec (.stageClear [byte i]) s = .next (s.heardSupervisor.answered 0x41 .refused .wrongState []).settle
      ∧ exec (.presetToStage [byte pr, byte i]) s = .next (s.heardSupervisor.answered 0x45 .refused .wrongState []).settle)
    -- a slot or a preset out of range, a list out of range or with an ill entry, and a CORRUPT preset
    ∧ (4 ≤ b.toNat → exec (.stageClear [b]) s = .next (s.heardSupervisor.answered 0x41 .refused .badArgument []).settle
      ∧ exec (.stageLoad (b :: byte es.length :: es.flatMap (·.image))) s
        = .next (s.heardSupervisor.answered 0x40 .refused .badArgument []).settle
      ∧ exec (.presetToStage [c, b]) s = .next (s.heardSupervisor.answered 0x45 .refused .badArgument []).settle)
    ∧ (32 ≤ c.toNat → exec (.presetToStage [c, b]) s = .next (s.heardSupervisor.answered 0x45 .refused .badArgument []).settle)
    ∧ (free → (w = [] ∨ 16 < w.length ∨ (∃ g ∈ w, 16 ≤ g.1.toNat ∨ 4 ≤ g.2.1.toNat ∨ 2 ≤ g.2.2.1.toNat
          ∨ g.2.2.1 = 0 ∧ (24 ≤ g.2.2.2.1.toNat ∨ 4 ≤ g.2.2.2.2.toNat)) →
          exec (.stageLoad (byte i :: byte w.length :: w.flatMap fun g => [g.1, g.2.1, g.2.2.1, g.2.2.2.1, g.2.2.2.2])) s
            = .next (s.heardSupervisor.answered 0x40 .refused .badArgument []).settle)
      ∧ (s.store.presets[pr] = .corrupt →
          exec (.presetToStage [byte pr, byte i]) s = .next (s.heardSupervisor.answered 0x45 .refused .presetCorrupt []).settle))

/-- SAVE_SETTINGS writes the settings as they stood, and its read-back decides.  States R186. -/
def Obligations.SettingsAreSaved : Prop :=
  ∀ (s : State) (k : Settings),
    s.powered = true →
    (s.command = none → Runs (.saveSettings []) s fun t =>
      t.store.op = some (.saveSettings s.settings) ∧ (s.quiet → t.command = some .saveSettings)
      ∧ t.store.region = s.store.region
      ∧ t.store.regionCheck = none ∧ t.store.settingsAtStart = .factory ∧ t.settings = s.settings)
    ∧ (s.store.op = some (.saveSettings k) → s.command = some .saveSettings →
      (Runs (.settingsSaveComplete true) s fun t =>
        t.store.region = k ∧ t.store.regionCheck = some (checkValue k.image) ∧ t.store.settingsAtStart = k
        ∧ t.store.settingsGood = true ∧ t.store.op = none ∧ .supervisory ⟨.done, 0x48, .noDetail, []⟩ ∈ t.sent
        ∧ t.marks.store = true ∧ t.settings = s.settings)
      ∧ (Runs (.settingsSaveComplete false) s fun t =>
        t.store.settingsGood = false ∧ t.store.op = none ∧ t.store.settingsAtStart = .factory
        ∧ ((t.sent.drop s.sent.length).any fun f => match f with
            | .supervisory r => r.outcome = .failed && r.kind = 0x48 && r.detail = .verifyFailed
            | _ => false) = true
        ∧ t.marks.store = true ∧ t.settings = s.settings))

/-- STAGE_TO_PRESET writes the entries of a slot, and its read-back decides.  From
10_stored_configuration_and_start_up sections 10.2 and 10.4, 11_frame_layouts section 11.6. -/
def Obligations.StageToPresetWrites : Prop :=
  ∀ (s : State) (i : SlotIx) (pr : PresetIx) (es : List StageEntry) (pw : PresetIx) (a b : Byte) (m : Bool),
    s.powered = true →
    let q := s.slot i
    let mine : Prop := (q.state = .loaded ∨ q.state = .armed) ∧ q.arming = none ∧ q.owner = some .supervisor
    let toPreset : Instr := .stageToPreset [byte i, byte pr]
    let refused (e : Detail) : Host.Outcome State Fault Refusal := .next (s.heardSupervisor.answered 0x46 .refused e []).settle
    let ended (p : Preset) : State := { s with
      store := { s.store with op := none, presets := s.store.presets.set pw p }, command := none
      marks := { s.marks with store := true } }
    (s.command = none →
      (4 ≤ a.toNat ∨ 32 ≤ b.toNat → exec (.stageToPreset [a, b]) s = refused .badArgument)
      ∧ (¬ mine → exec toPreset s = refused .wrongState)
      ∧ (mine → s.store.presets[pr] ≠ .blank → exec toPreset s = refused .notBlank)
      ∧ (mine → s.store.presets[pr] = .blank → exec toPreset s = .next { s.heardSupervisor with
          store := { s.store with op := some (.writePreset pr (q.entries.map fun e : SlotEntry => e.entry)) }
          command := some .stageToPreset }.settle))
    ∧ (s.store.op = some (.writePreset pw es) → s.command = some .stageToPreset →
      exec (.presetWriteComplete true) s = .next (((ended (.valid es (some (checkValue (presetImage es))))).answered 0x46 .done
          .noDetail [byte es.length])).settle
      ∧ exec (.presetWriteComplete false) s = .next ((ended .corrupt).answered 0x46 .failed .verifyFailed []).settle)
    ∧ (s.store.op = none → exec (.presetWriteComplete m) s = .next s.settle ∧ exec .presetEraseComplete s = .next s.settle
      ∧ exec (.settingsSaveComplete m) s = .next s.settle)

/-- PRESET_ERASE, PRESET_BLANK and STORE_CHECK.  From 10_stored_configuration_and_start_up sections 10.2 to 10.5,
11_frame_layouts section 11.6. -/
def Obligations.PresetsErasedAndChecked : Prop :=
  ∀ (s : State) (f c : Byte) (pr pw : PresetIx) (es : List StageEntry) (check : Option Nat),
    s.powered = true →
    let u := s.heardSupervisor
    let found : Preset → Preset := fun p => match p with
      | .valid es check => if check = some (checkValue (presetImage es)) then p else .corrupt
      | .blank => .blank
      | .corrupt => .corrupt
    let presets := s.store.presets.map found
    let good := decide (s.store.regionCheck = some (checkValue s.store.region.image))
    let inside (p : PresetIx) : Prop := f.toNat ≤ p.val ∧ p.val < f.toNat + c.toNat
    (s.command = none →
      (32 ≤ f.toNat → exec (.presetErase [f]) s = .next (u.answered 0x49 .refused .badArgument []).settle)
      ∧ exec (.presetErase [byte pr]) s = .next { u with
          store := { s.store with
            op := some (.erasePreset pr)
            presets := s.store.presets.set pr (match s.store.presets[pr] with
              | .valid l _ => .valid l none
              | .blank => .blank
              | .corrupt => .corrupt) }
          command := some .presetErase }.settle
      ∧ (Runs (.presetErase [byte pr]) s fun t => s.store.presets[pr] = .valid es check → t.store.started.presets[pr] = .corrupt)
      ∧ (f.toNat + c.toNat ≤ 32 → 1 ≤ c.toNat →
        ((∀ p, inside p → s.store.presets[p] = .blank) →
          exec (.presetBlank [f, c]) s = .next (u.answered 0x4A .done .noDetail [1, 255]))
        ∧ (inside pr → s.store.presets[pr] ≠ .blank → (∀ p, inside p → p < pr → s.store.presets[p] = .blank) →
          exec (.presetBlank [f, c]) s = .next (u.answered 0x4A .done .noDetail [0, byte pr])))
      ∧ (c = 0 ∨ 32 < f.toNat + c.toNat → exec (.presetBlank [f, c]) s = .next (u.answered 0x4A .refused .badArgument []))
      ∧ exec (.storeCheck []) s = .next { u.answered 0x4B .done .noDetail
            [byte (presets.toList.countP fun p => match p with
                | .valid _ _ => true
                | _ => false),
              byte (presets.toList.countP fun p => decide (p = .corrupt)), if good then 0 else 1] with
          store := { s.store with presets := presets, settingsGood := good }
          marks := { s.marks with
            store := s.marks.store || decide (presets ≠ s.store.presets)
            settingsFault := s.marks.settingsFault || !good } })
    ∧ (s.store.op = some (.erasePreset pw) → s.command = some .presetErase → Runs .presetEraseComplete s fun t =>
      t.store = { s.store with op := none, presets := t.store.presets } ∧ t.store.presets[pw] = .blank
      ∧ (∀ p, p ≠ pw → t.store.presets[p] = s.store.presets[p] ∨ t.store.presets[p] = .corrupt)
      ∧ .supervisory ⟨.done, 0x49, .noDetail, []⟩ ∈ t.sent ∧ t.settings = s.settings
      ∧ (s.store.region.room.startPreset = some pw → Runs .powerUp { t with powered := false } fun v => v.conns = []))

/-- The status queries report the state as it stands; CHANGES reports the marks and clears them.  From
09_supervisory_line_and_room_lock sections 9.5 and 9.6, 03_budgets_and_tiers section 3.8, 11_frame_layouts section
11.6. -/
def Obligations.SupervisoryQueriesAnswered : Prop :=
  ∀ (s : State) (d : Desk) (x : Source) (b c e : Byte),
    s.powered = true → s.command = none →
    let u := s.heardSupervisor
    let report (c : Instr) (kind : Byte) (data : List Byte) : Prop := exec c s = .next (u.answered kind .done .noDetail data)
    let refused (c : Instr) (kind : Byte) : Prop := exec c s = .next (u.answered kind .refused .badArgument [])
    let bits : List Bool := s.marks.desks.toList ++ s.marks.sources.toList ++ s.marks.slots.toList
      ++ [s.marks.room, s.marks.store, s.marks.settingsFault]
    (b.toNat ≤ 83 → report (.listConnections [b]) 0x50 (u.listReport b.toNat))
    ∧ (83 < b.toNat → refused (.listConnections [b]) 0x50)
    ∧ report (.deskStatus [byte d]) 0x51 (u.deskStatusReport d) ∧ (16 ≤ c.toNat → refused (.deskStatus [c]) 0x51)
    ∧ report (.sourceStatus [byte x]) 0x52 (u.sourceStatusReport x) ∧ (24 ≤ c.toNat → refused (.sourceStatus [c]) 0x52)
    ∧ report (.budget [0, c]) 0x53 u.budgetRoom ∧ report (.budget [1, byte d]) 0x53 (u.budgetDesk d)
    ∧ report (.budget [2, byte x]) 0x53 (u.budgetSource x)
    ∧ (2 < e.toNat ∨ e = 1 ∧ 16 ≤ c.toNat ∨ e = 2 ∧ 24 ≤ c.toNat → refused (.budget [e, c]) 0x53)
    ∧ Runs (.changes []) s fun t => t = { u with marks := t.marks, sent := t.sent }
        ∧ (∀ i : Desk, t.marks.desks[i] = false) ∧ (∀ i : Source, t.marks.sources[i] = false) ∧ (∀ i : SlotIx, t.marks.slots[i] = false)
        ∧ t.marks.room = false ∧ t.marks.store = false ∧ t.marks.settingsFault = false
        ∧ t.sent = s.sent ++ [.supervisory ⟨.done, 0x54, .noDetail, bitSet 6 bits ++ (if s.marks.room then
            (match s.roomLock with
              | some r => [1, r.sens.bits, r.manner.code, flag r.due.isSome]
              | none => [0]) else [])⟩]

/-- LOCK makes a room lock stand, UNLOCK and its duration timer end it; a HARD lock cancels requests.  From
09_supervisory_line_and_room_lock sections 9.7, 06_desk_ports section 6.4, 11_frame_layouts section 11.6. -/
def Obligations.RoomLockStandsAndEnds : Prop :=
  ∀ (s : State) (set m lo hi : Byte) (due : Time) (old : RoomLock) (d : Desk) (e : Executing) (q : Conn) (holds : List Hold) (i : SlotIx),
    let u := s.heardSupervisor
    let n := min 3600 (word16 lo hi)
    let sens : Sensitivity := {
      connections := set.getLsbD 0, control := set.getLsbD 1, scans := set.getLsbD 2, tiers := set.getLsbD 3 }
    let made : RoomLock := {
      sens := sens, manner := if m = 0 then .soft else .hard, due := if n = 0 then none else some (s.now + 1000 * n) }
    let answer : Sent := .supervisory ⟨.done, 0x58, if 3600 < word16 lo hi then .adjusted else .noDetail, []⟩
    let lock : Instr := .lock [set, m, lo, hi]
    let legal : Prop := 1 ≤ set.toNat ∧ set.toNat ≤ 15 ∧ m.toNat ≤ 1
    let kept (t : State) : Prop := t.settings = s.settings ∧ t.sourceLinks = s.sourceLinks ∧ t.deskLinks = s.deskLinks
      ∧ t.store.region = s.store.region ∧ t.store.op = s.store.op
    (s.powered = true → s.command = none →
      (legal → Runs lock s fun t => t.roomLock = some made ∧ answer ∈ t.sent ∧ t.marks.room = true ∧ t.now = s.now ∧ kept t)
      ∧ (¬ legal → exec lock s = .next (u.answered 0x58 .refused .badArgument []).settle)
      ∧ (s.roomLock = none → exec (.unlock []) s = .next (u.answered 0x59 .refused .wrongState []).settle)
      ∧ (s.roomLock = some old → Runs (.unlock []) s fun t =>
          t.roomLock = none ∧ .supervisory ⟨.done, 0x59, .noDetail, []⟩ ∈ t.sent ∧ t.marks.room = true ∧ t.now = s.now ∧ kept t))
    ∧ (s.powered = true → s.roomLock = some old → old.due = some due → Runs .durationTimerExpiry s fun t =>
        t.roomLock = none ∧ t.marks.room = true ∧ t.now = max s.now due ∧ kept t)
    ∧ (s.powered = true → (s.roomLock.bind (·.due)) = none → exec .durationTimerExpiry s = .next s.settle)
    ∧ (s.quiet → s.expiredUnderLock = false → s.command = none → legal → s.roomLock = none → m = 0 → exec lock s = .next { u with
          roomLock := some made, sent := s.sent ++ [answer], marks := { s.marks with room := true } })
    ∧ (s.expiredUnderLock = false → s.command = none → legal → s.roomLock = none → m = 1 → (s.deskLink d).link.live = true → (s.stack d).executing = some e →
      (∀ b, b ≠ d → (s.stack b).executing = none) →
      let covered (b : RequestBody) : Bool := if b.isConnection then sens.connections else sens.control
      let gone (r : Request) : Sent := .deskResponse d r.number ⟨.cancelled, r.body.kind, .roomLocked, []⟩
      -- what a waiting request of the set is answered, and the waiting request that stays
      let away : List Sent := ((s.stack d).waiting.filter fun r => covered r.body).toList.map gone
      let stays := (s.stack d).waiting.filter fun r => !covered r.body
      let after (k : Stack) (sent : List Sent) : State := { u with
        roomLock := some made, requests := s.requests.set d k, sent := s.sent ++ sent ++ [answer]
        marks := { s.marks with room := true } }
      let still : State := { s with requests := s.requests.set d { executing := none, waiting := none } }
      let bare : State := { still with slots := s.slots.set i Slot.fresh }
      (still.quiet → e.phase = .frame ∨ e.phase = .inFlight ∧ (covered e.request.body = false ∨
            s.requestedConn d = some q ∧ q.step = some .lock) →
          exec lock s = .next (after { executing := some e, waiting := stays } away))
      ∧ (still.quiet → e.phase = .held holds → covered e.request.body = true → stays = none →
          exec lock s = .next (after { executing := none, waiting := none } (away ++ [gone e.request])))
      ∧ (still.quiet → s.Bounded → e.phase = .inFlight → e.request.body.isConnection = true → covered e.request.body = true →
          stays = none → s.requestedConn d = some q → q.step ≠ some .lock → s.drives d q.source = false →
          (s.claims q.source).any (·.desk = d) = false → q.prior ≠ some (.suspended .budget) →
          Runs lock s fun t => t.stack d = { executing := none, waiting := none } ∧ gone e.request ∈ t.sent
            ∧ (t.conn? q.handle).map Conn.core = q.prior.map (fun st => (q.screen, q.head, st, q.origin, none)))
      ∧ (bare.quiet → e.phase = .recall i → (s.slot i).recallOpen = true →
          covered e.request.body = true → stays = none →
          Runs lock s fun t => t.stack d = { executing := none, waiting := none } ∧ t.slot i = Slot.fresh
            ∧ t.sent = s.sent ++ away ++ [gone e.request, answer]))

/-- Start-up clears every record and loads the store; RESTART stays in progress until it ends.  From
10_stored_configuration_and_start_up sections 10.3 and 10.5, 09_supervisory_line_and_room_lock section 9.8. -/
def Obligations.StartUpLoadsStore : Prop :=
  ∀ (s : State) (es : List StageEntry) (pr : PresetIx) (check : Nat),
    let good := decide (s.store.regionCheck = some (checkValue s.store.region.image))
    let k : Settings := if good then s.store.region else .factory
    let found : Preset → Preset := fun p => match p with
      | .valid l check => if check = some (checkValue (presetImage l)) then p else .corrupt
      | .blank => .blank
      | .corrupt => .corrupt
    let written : Vector Preset 32 := match s.store.op with
      | some (.writePreset p _) => s.store.presets.set p .corrupt
      | _ => s.store.presets
    let store : Store := { s.store with op := none, settingsGood := good, presets := written.map found }
    let started (sent : List Sent) (conns : List Conn) (ended : Bool) : State := { State.reset with
      now := s.now, frameRate := k.room.houseRate, conns := conns
      tiers := k.sources.map fun q => Vector.replicate 4 { tier := q.preferredTier, raw := none, change := none, lastNamed := none }
      deskLinks := k.desks.map fun q => DeskLink.fresh (if ended ∧ q.grace ≠ 0 then some (s.now + 1000 * q.grace) else none)
      settings := k, store := store, marks := Marks.atStart (!good), sent := sent
      command := if ended then none else some .restart }
    let done : List Sent := s.sent ++ [.supervisory ⟨.done, 0x5A, .noDetail, []⟩]
    let heads : List (ScreenId × HeadId) := if k.room.startPreset = some pr ∧ store.presets[pr] = .valid es (some check) then
        es.filterMap fun e => match e.target with
          | .head h => some (e.screen, h)
          | .blank => none
      else []
    let listed (t : State) (ended : Bool) : Prop :=
      t.conns.map (fun c => ((c.screen, c.head), c.handle))
          = heads.zipIdx.filter (fun p => !ended || decide ((k.desks[p.1.1.desk]).grace ≠ 0))
      ∧ ∀ c ∈ t.conns, c.state = .suspended .deskAbsent ∧ c.origin = .start ∧ c.reservation = 0 ∧ c.step = none
    (k.room.startPreset = none ∨ k.room.startPreset = some pr ∧ (store.presets[pr] = .blank ∨ store.presets[pr] = .corrupt ∨
        store.presets[pr] = .valid es (some check) ∧ es.length ≤ 64)) →
      (s.powered = false → Runs .powerUp s fun t => t = { started s.sent t.conns true with pending := s.pending } ∧ listed t true)
      ∧ (s.powered = true → s.command = none → Runs (.restart []) s fun t =>
          t = { started done t.conns false with pending := s.pending } ∧ listed t false
          ∧ Steps { t with pending := [] } fun v => v = started done v.conns true ∧ listed v true)

/-- A replacement waits on the transfer handle, and completes at the frame event that applies what it posted.  From
01_the_connection_table sections 1.2, 1.4, 1.6 and 1.7, 03_budgets_and_tiers sections 3.3 and 3.4,
09_supervisory_line_and_room_lock section 9.3. -/
def Obligations.ReplacementCompletes : Prop :=
  ∀ (s : State) (d : Desk) (n : Byte) (k : ScreenIx) (x : Source) (hd : HeadIx) (c r : Conn) (h : Handle) (content : Content),
    let scr : ScreenId := ⟨d, k⟩
    let head : HeadId := ⟨x, hd⟩
    let ask : Instr := .connect d [n, byte k, byte x, byte hd]
    let made (st : RecordState) (step : Option BringUpStep) (charge : Nat) : Conn := {
      handle := 64 + d, screen := scr, head := head, state := st, reservation := charge, origin := .desk, step := step
      scan := none, replaces := some c.handle, answerTo := some .desk, auto := none, posted := true, prior := none }
    let begun (t : State) (p : Content) : Prop := t.position scr = { s.position scr with pending := some p }
      ∧ (∀ q, q ≠ scr → t.position q = s.position q) ∧ SameRecordsBut (64 + d) s t
      ∧ t = { s.heardDesk d with
          requests := s.requests.set d {
            executing := some ⟨⟨n, .connect (byte k) (byte x) (byte hd)⟩, .inFlight⟩, waiting := none }
          nextAdmission := t.nextAdmission, conns := t.conns, positions := t.positions, marks := t.marks }
    (s.quiet → s.Bounded → s.canAsk d true = true → s.screenExists scr = true → s.headExists head = true →
      s.markedBy scr = none → (s.right d x).atLeast .view = true → s.privateToOther x d = false →
      s.connsAt scr = [c] → c.inFlight = false → c.head ≠ head → s.conn? (64 + d) = none →
      (s.headActive head = false → Runs ask s fun t =>
        t.conn? (64 + d) = some (made .waiting none 0) ∧ begun t (.card (s.head head).card))
      ∧ (s.headActive head = true → (s.tier head).change = none → s.fitsNow [⟨head, scr⟩] = true → Runs ask s fun t =>
        t.conn? (64 + d) = some (made .switching (some .switch) (t.headCharge head)) ∧ begun t (.route head))
      ∧ (s.headActive head = true → (s.tier head).change = none → s.fitsNow [⟨head, scr⟩] = false →
        (∀ g ∈ s.overflowing [] [⟨head, scr⟩], s.tierLimit g ≤ (s.tier g).tier ∧ (s.tier g).change = none) →
        s.drives d x = false → (s.claims x).any (·.desk = d) = false →
        c.state ≠ .admitting → s.isDue scr (s.contentDue c) = true → Runs ask s fun t =>
          t.conns.map Conn.core = s.conns.map Conn.core
          ∧ t = { (s.heardDesk d).responded d n 0x10 .failed .noBandwidth [2] with
              nextAdmission := t.nextAdmission, conns := t.conns, marks := t.marks }))
    ∧ ((s.without r.handle).quiet → s.Bounded → s.connsAt scr = [c, r] → r.handle = 64 + d → r.replaces = some c.handle →
      c.inFlight = false → r.posted = true → r.auto = none → r.scan = none →
      (r.answerTo = some .desk →
        (s.stack d).executing = some ⟨⟨n, .connect (byte k) (byte x) (byte hd)⟩, .inFlight⟩ ∧ (s.deskLink d).link.live = true) →
      (r.answerTo = some .force → s.command = some (.forceConnect scr r.head .inFlight)) →
      (s.position scr).pending = some content → (s.without c.handle).lowestFree = some h →
      s.drives d c.source = false → (s.claims c.source).any (·.desk = d) = false → (∀ q ∈ s.chargedPlacements, q.screen ≠ scr) →
      (r.state = .switching → r.step = some .switch → r.answerTo.isSome → content = .route r.head →
        Runs .houseFrameEvent s fun t =>
          t.connsAt scr = [{ r with
            handle := h, replaces := none, posted := false, step := some .lock, reservation := t.headCharge r.head }]
          ∧ t.position scr = { shown := content, pending := none, lockTimer := some (s.now + s.settings.room.lockTimeout) }
          ∧ t.screenCharge scr = t.headCharge r.head ∧ (r.answerTo = some .desk → t.stack d = s.stack d)
          ∧ (∀ q ∈ s.conns, q.screen ≠ scr → (t.conn? q.handle).map (·.state) = some q.state)
          ∧ t.sourceLinks = s.sourceLinks ∧ t.deskLinks = s.deskLinks ∧ t.controls = s.controls ∧ SameSetup s t)
      ∧ ((r.state = .waiting ∨ r.state = .suspended .budget ∨ r.state = .suspended .privacy ∨ r.state = .suspended .deskAbsent) → r.step = none → r.answerTo.isSome → content = s.contentDue r →
        Runs .houseFrameEvent s fun t =>
          t.connsAt scr = [{ r with handle := h, replaces := none, posted := false, answerTo := none, reservation := 0 }]
          ∧ t.position scr = { shown := content, pending := none, lockTimer := none } ∧ t.screenCharge scr = 0
          ∧ (r.answerTo = some .desk → (t.stack d).executing = none
            ∧ .deskResponse d n ⟨.done, 0x10, .noDetail, [r.state.code]⟩ ∈ t.sent)
          ∧ (r.answerTo = some .force → t.command = none ∧ .supervisory ⟨.done, 0x38, .noDetail, [r.state.code]⟩ ∈ t.sent
            ∧ ((s.deskLink d).link.live = true → (t.noticeList d).any (·.kind = .changed) = true))
          ∧ (∀ q ∈ s.conns, q.screen ≠ scr → (t.conn? q.handle).map (·.state) = some q.state)
          ∧ t.sourceLinks = s.sourceLinks ∧ t.deskLinks = s.deskLinks ∧ t.controls = s.controls ∧ SameSetup s t))

/-- A connection that names the head shown acts by the state of the record there.  From 01_the_connection_table
sections 1.1, 1.5, 1.6, 1.9 and 1.12, 07_scan_lists section 7.1. -/
def Obligations.SameHeadConnections : Prop :=
  ∀ (s : State) (d : Desk) (n : Byte) (k : ScreenIx) (c : Conn),
    let scr : ScreenId := ⟨d, k⟩
    let ask : Instr := .connect d [n, byte k, byte c.source, byte c.head.head]
    let force : Instr := .forceConnect [byte d, byte k, byte c.source, byte c.head.head]
    let stand (p : Phase) : Stack :=
      { executing := some ⟨⟨n, .connect (byte k) (byte c.source) (byte c.head.head)⟩, p⟩, waiting := none }
    let mine : Conn := { c with origin := .desk, scan := none }
    let passes : Prop := s.Bounded ∧ s.canAsk d true = true ∧ s.screenExists scr = true ∧ s.headExists c.head = true
      ∧ s.markedBy scr = none ∧ (s.right d c.source).atLeast .view = true ∧ s.privateToOther c.source d = false
      ∧ s.connsAt scr = [c] ∧ c.inFlight = false
    (({ s.unscanned (·.handle = c.handle) with resumption := { s.resumption with list := [] } } : State).quiet → passes →
      (c.state = .live ∨ c.state = .waiting ∨ c.state = .suspended .deskAbsent → Runs ask s fun t =>
        t = { (s.heardDesk d).responded d n 0x10 .done .noDetail [c.state.code] with conns := t.conns, marks := t.marks }
        ∧ t.conn? c.handle = some mine ∧ SameRecordsBut c.handle s t)
      ∧ (c.state = .switching → Runs ask s fun t =>
        t.conn? c.handle = some { mine with step := some .lock, answerTo := some .desk } ∧ SameRecordsBut c.handle s t
        ∧ (∀ q, q ≠ scr → t.position q = s.position q)
        ∧ t.position scr = { s.position scr with
            lockTimer := some ((s.position scr).lockTimer.getD (s.now + s.settings.room.lockTimeout)) }
        ∧ t = { s.heardDesk d with
            requests := s.requests.set d (stand .inFlight), conns := t.conns, positions := t.positions, marks := t.marks })
      ∧ (c.state = .fault ∨ c.state = .suspended .budget → c.prior = none →
        (s.headActive c.head = false → Runs ask s fun t =>
          t.conn? c.handle = some { mine with state := .waiting, reservation := 0 } ∧ SameRecordsBut c.handle s t
          ∧ t.isDue scr (.card (s.head c.head).card) = true
          ∧ (∀ q, q ≠ scr → t.position q = s.position q) ∧ c.handle ∉ t.resumption.list
          ∧ t = { (s.heardDesk d).responded d n 0x10 .done .noDetail [0] with
              conns := t.conns, positions := t.positions, resumption := t.resumption, marks := t.marks })
        ∧ (s.headActive c.head = true → (s.tier c.head).change = none → s.fitsNow [⟨c.head, scr⟩] = true → Runs ask s fun t =>
          t.conn? c.handle = some { mine with
            state := .switching, reservation := t.headCharge c.head, step := some .switch, answerTo := some .desk
            prior := some c.state }
          ∧ SameRecordsBut c.handle s t ∧ (t.position scr).pending = some (.route c.head)
          ∧ (t.position scr).shown = (s.position scr).shown ∧ (∀ q, q ≠ scr → t.position q = s.position q)
          ∧ c.handle ∉ t.resumption.list
          ∧ t = { s.heardDesk d with
              requests := s.requests.set d (stand .inFlight), nextAdmission := t.nextAdmission, resumption := t.resumption
              conns := t.conns, positions := t.positions, marks := t.marks })
        ∧ (s.headActive c.head = true → (s.tier c.head).change = none → s.fitsNow [⟨c.head, scr⟩] = false →
          (∀ g ∈ s.overflowing [] [⟨c.head, scr⟩], s.tierLimit g ≤ (s.tier g).tier ∧ (s.tier g).change = none) →
          s.isDue scr (s.contentDue c) = true → Runs ask s fun t =>
            t.conn? c.handle = some { mine with reservation := 0 } ∧ SameRecordsBut c.handle s t
            ∧ (c.state = .suspended .budget ↔ c.handle ∈ t.resumption.list)
            ∧ t = { (s.heardDesk d).responded d n 0x10 .failed .noBandwidth [2] with
                nextAdmission := t.nextAdmission, conns := t.conns, resumption := t.resumption, marks := t.marks })))
    ∧ (s.powered = true → s.dueWork = none → s.movedTargets = [] → passes → c.state = .suspended .privacy →
      s.readmissions.any (·.handle = c.handle) = true → Runs ask s fun t =>
        t.stack d = stand (.held [.listed c.handle]) ∧ t.sent = s.sent ∧ t.positions = s.positions
        ∧ t.readmissions = s.readmissions ∧ t.conns.map Conn.core = s.conns.map Conn.core)
    ∧ ((s.unscanned (·.handle = c.handle)).quiet → s.Bounded → s.command = none → s.headExists c.head = true →
      s.markedBy scr = none → s.connsAt scr = [c] → c.inFlight = false →
      (if (s.deskLink d).link.live = true
        then s.screenExists scr = true ∧ (c.state = .live ∨ c.state = .waiting
          ∨ c.state = .suspended .privacy ∧ s.privateToOther c.source d = true)
        else c.state = .suspended .deskAbsent) → Runs force s fun t =>
          t = { s.heardSupervisor.answered 0x38 .done .noDetail [c.state.code] with conns := t.conns, marks := t.marks }
          ∧ t.conn? c.handle = some { c with origin := .supervisor, scan := none } ∧ SameRecordsBut c.handle s t)

/-- A force supersedes the desk request in flight on its screen.  From 01_the_connection_table sections 1.2, 1.5, 1.10
and 1.12, 06_desk_ports section 6.5. -/
def Obligations.ForceSupersedesRequest : Prop :=
  ∀ (s : State) (d : Desk) (k : ScreenIx) (x : Source) (hd : HeadIx) (q : Request) (c r : Conn) (h : Handle),
    let scr : ScreenId := ⟨d, k⟩
    let head : HeadId := ⟨x, hd⟩
    let clear : Instr := .forceDisconnect [byte d, byte k]
    let connect : Instr := .forceConnect [byte d, byte k, byte x, byte hd]
    let first (t : State) : Prop := t.sent.take (s.sent.length + 1)
        = s.sent ++ [.deskResponse d q.number ⟨.cancelled, q.body.kind, .superseded, []⟩] ∧ (t.stack d).executing = none
    let forced (t : State) : Prop := (t.noticeList d).any (fun a => a.kind = .forced ∧ a.screen = some k) = true
    let record (n : Handle) (old : Option Handle) : Conn := {
      handle := n, screen := scr, head := head, state := .waiting, reservation := 0, origin := .supervisor, step := none
      scan := none, replaces := old, answerTo := if old.isSome then some .force else none, auto := none
      posted := old.isSome, prior := none }
    let free (g : HeadId) : Prop := s.drives d g.source = false ∧ (s.claims g.source).any (·.desk = d) = false
    let room (u : State) : Prop := u.quiet ∧ s.Bounded ∧ s.command = none ∧ s.markedBy scr = none
      ∧ (s.deskLink d).link.live = true ∧ s.screenExists scr = true ∧ (s.stack d).executing = some ⟨q, .inFlight⟩
    let other (t : State) : Prop := ∀ g ∈ s.conns, g.screen ≠ scr → (t.conn? g.handle).map Conn.core = some g.core
    (room s → s.connsAt scr = [c] → c.answerTo = some .desk → free c.head →
      (c.step ≠ some .lock → c.prior = none →
        Runs clear s (fun t => first t ∧ forced t ∧ other t ∧ t.connsAt scr = [] ∧ t.isDue scr (.card .blank) = true
          ∧ t.sent.getLast? = some (.supervisory ⟨.done, 0x39, .noRecord, []⟩) ∧ t.command = none)
        ∧ (s.headExists head = true → s.headActive head = false → s.privateToOther x d = false →
          (s.without c.handle).lowestFree = some h → Runs connect s fun t =>
            first t ∧ other t ∧ t.connsAt scr = [record h none] ∧ t.isDue scr (.card (s.head head).card) = true
            ∧ (t.noticeList d).any (fun a => a.kind = .changed ∧ a.screen = some k) = true
            ∧ t.sent.getLast? = some (.supervisory ⟨.done, 0x38, .noDetail, [0]⟩) ∧ t.command = none))
      ∧ (c.step = some .lock ∨ c.prior.isSome →
        let st := if c.step = some .lock then c.state else c.prior.getD c.state
        Runs clear s (fun t => first t ∧ forced t ∧ other t ∧ t.connsAt scr = [] ∧ t.isDue scr (.card .blank) = true
          ∧ (t.position scr).lockTimer = none ∧ t.command = some (.forceDisconnect scr .frame))
        ∧ (s.headExists head = true → s.headActive head = false → s.privateToOther x d = false → head ≠ c.head →
          st ≠ .admitting → (c.step ≠ some .lock → st ≠ .suspended .budget) → s.conn? (64 + d) = none → Runs connect s fun t =>
            first t ∧ other t ∧ t.conn? (64 + d) = some (record (64 + d) (some c.handle))
            ∧ (t.conn? c.handle).map Conn.core = some (scr, c.head, st, c.origin, none)
            ∧ (c.step = some .lock → (t.position scr).lockTimer = none)
            ∧ (t.position scr).pending = some (.card (s.head head).card)
            ∧ t.command = some (.forceConnect scr head .inFlight)))
      ∧ (c.step = some .lock → c.state = .switching → head = c.head → s.headExists head = true → Runs connect s fun t =>
          first t ∧ other t
          ∧ t.conn? c.handle = some { c with origin := .supervisor, step := some .lock, scan := none, answerTo := some .force }
          ∧ (t.position scr).lockTimer = some (s.now + s.settings.room.lockTimeout)
          ∧ t.command = some (.forceConnect scr head .inFlight) ∧ t.tiers = s.tiers))
    ∧ (room (s.without r.handle) → s.connsAt scr = [c, r] → r.handle = 64 + d → r.replaces = some c.handle → r.auto = none →
      r.answerTo = some .desk → r.step ≠ some .lock → r.prior = none → c.inFlight = false → c.state ≠ .admitting →
      free c.head → free r.head →
        Runs clear s (fun t => first t ∧ forced t ∧ other t ∧ t.connsAt scr = [] ∧ t.isDue scr (.card .blank) = true
          ∧ t.command = some (.forceDisconnect scr .frame))
        ∧ (s.headExists head = true → s.headActive head = false → s.privateToOther x d = false → head ≠ c.head →
          Runs connect s fun t => first t ∧ other t ∧ t.conn? (64 + d) = some (record (64 + d) (some c.handle))
            ∧ (t.conn? c.handle).map Conn.core = some c.core ∧ (t.position scr).pending = some (.card (s.head head).card)
            ∧ t.command = some (.forceConnect scr head .inFlight)))

/-- An admission that does not fit raises tiers on paper, sends them, and is decided when the last has settled.  From
03_budgets_and_tiers sections 3.2 to 3.5, 01_the_connection_table sections 1.6 and 1.9, 04_input_control section 4.3. -/
def Obligations.AdmissionRaisesTiers : Prop :=
  ∀ (s : State) (d : Desk) (n : Byte) (k : ScreenIx) (x : Source) (hd : HeadIx) (h : Handle) (g : HeadId) (w : TierChange) (id m : Nat) (paper : Paper),
    let scr : ScreenId := ⟨d, k⟩
    let head : HeadId := ⟨x, hd⟩
    let pl : List Placement := [⟨head, scr⟩]
    let ask : Instr := .connect d [n, byte k, byte x, byte hd]
    let found := s.raiseLoop pl 288 []
    let stand : Stack := { executing := some ⟨⟨n, .connect (byte k) (byte x) (byte hd)⟩, .inFlight⟩, waiting := none }
    let record : Conn := newConn h scr head .desk none none .desk
    let waits (t : State) (p : AdmissionPhase) : Prop :=
      t.conn? h = some record ∧ SameRecordsBut h s t
      ∧ t.admissions = [⟨s.nextAdmission, .record h, pl, p⟩] ∧ t.positions = s.positions ∧ t.sent = s.sent
      ∧ t.stack d = stand ∧ t.controls = s.controls ∧ t.sourceLinks = s.sourceLinks
    let failed (t : State) (e : Detail) : Prop :=
      t.conn? h = none ∧ SameRecordsBut h s t ∧ t.admissions = []
      ∧ t.sent = s.sent ++ [.deskResponse d n ⟨.failed, 0x10, e, [2]⟩] ∧ (t.stack d).executing = none
      ∧ t.positions = s.positions
    ((s.fits found pl = true ∨ s.candidates found pl = [])
      ∧ (found.map (·.1)).Nodup ∧ (s.fits [] pl = true → found = [])
      ∧ (∀ p ∈ found, (s.tier p.1).change = none ∧ (s.tier p.1).tier < p.2 ∧ p.2 ≤ s.tierLimit p.1)
      ∧ (s.fits paper pl = false → s.candidates paper pl ≠ [] → ∃ c ∈ s.candidates paper pl,
          (∀ b ∈ s.candidates paper pl, s.paperCharge paper b < s.paperCharge paper c
            ∨ s.paperCharge paper b = s.paperCharge paper c ∧ headPlace c ≤ headPlace b)
          ∧ s.raiseLoop pl (m + 1) paper
            = s.raiseLoop pl m ((c, s.paperTier paper c + 1) :: paper.filter (·.1 ≠ c))))
    ∧ (s.quiet → s.Bounded → s.canAsk d true = true → s.screenExists scr = true → s.headExists head = true →
      s.markedBy scr = none → (s.right d x).atLeast .view = true → s.privateToOther x d = false →
      s.connsAt scr = [] → s.isDue scr (.card .blank) = true → (s.position scr).lockTimer = none → s.lowestFree = some h → s.headActive head = true →
      ((s.tier head).change = none → s.fits found pl = true → found ≠ [] → Runs ask s fun t => waits t .own
        ∧ (∀ b, (t.tier b).change = match found.find? (·.1 = b) with
            | some p => some { old := (s.tier b).tier, new := p.2, origin := .admission s.nextAdmission, due := s.now + 500 }
            | none => (s.tier b).change)
        ∧ (∀ p ∈ found, s.sourceLive p.1.source = true → (t.tier p.1).lastNamed = some p.2)
        ∧ (∀ y, t.input y = if s.sourceLive y = true then (s.input y).withTierSets ((headsOf y).filterMap fun b =>
            (found.find? (·.1 = b)).map fun p => (b.head, p.2)) else s.input y)
        ∧ ∀ b, (t.tier b).tier = (s.tier b).tier ∧ (t.tier b).raw = (s.tier b).raw ∧ t.headCharge b = s.headCharge b)
      ∧ ((s.tier head).change = none → s.fits [] pl = false →
        (∀ b ∈ s.overflowing [] pl, s.tierLimit b ≤ (s.tier b).tier ∧ (s.tier b).change = none) →
        -- the desk loses no relation to the source with the record that is discarded (R82)
        s.drives d x = false ∧ (s.claims x).any (·.desk = d) = false ∨ s.conns.any (fun c => c.desk = d ∧ c.source = x) = true →
        Runs ask s fun t => failed t .noBandwidth ∧ t.tiers = s.tiers)
      ∧ ((s.tier head).change ≠ none → Runs ask s fun t => waits t (.others [head]) ∧ t.tiers = s.tiers))
    ∧ (({ s with admissions := [] } : State).quiet → s.Bounded → (s.deskLink d).link.live = true → s.stack d = stand →
      s.conn? h = some record → s.connsAt scr = [record] → s.isDue scr (.card .blank) = true →
      (s.position scr).lockTimer = none →
      s.admissions = [⟨id, .record h, pl, .own⟩] → (s.tier g).change = some w → w.origin = .admission id → s.headActive head = true →
      (s.sourceLink g.source).link.live = true → g.head.val < (s.sourceLink g.source).headCount →
      s.drives d x = false → (s.claims x).any (·.desk = d) = false →
      let u := s.setTier g { s.tier g with tier := w.new, change := none }
      let last : Bool := allHeads.all fun b => b = g || !(s.tier b).change.any (·.origin = w.origin)
      (last = true → u.fitsNow pl = true → Runs (.tierAck g.source [byte g.head, byte w.new]) s fun t =>
        t.conn? h = some { record with state := .switching, step := some .switch, reservation := t.headCharge head }
        ∧ SameRecordsBut h s t ∧ t.admissions = [] ∧ (t.position scr).pending = some (.route head)
        ∧ t.sent = s.sent ∧ t.stack d = stand ∧ (s.carried g = true ∨ g = head → (t.tier g).tier = w.new))
      ∧ (last = true → u.fitsNow pl = false → Runs (.tierAck g.source [byte g.head, byte w.new]) s fun t =>
        failed t .noBandwidth ∧ (s.carried g = true → (t.tier g).tier = w.new ∧ (t.tier g).change = none))
      ∧ (last = false → Runs (.tierAck g.source [byte g.head, byte w.new]) s fun t =>
        t.conn? h = some record ∧ t.admissions = s.admissions ∧ t.sent = s.sent ∧ t.stack d = stand
        ∧ (s.carried g = true ∨ g = head → (t.tier g).tier = w.new ∧ (t.tier g).change = none))
      ∧ Runs (.tierChangeTimerExpiry g.source g.head) s fun t =>
        failed t .tierTimeout ∧ (s.carried g = true → (t.tier g).tier = (s.tier g).tier ∧ (t.tier g).change = none))

/-- A record listed for re-admission is taken at its turn; a resumption pass takes its records in handle order.  From
01_the_connection_table sections 1.3 and 1.9, 03_budgets_and_tiers section 3.6. -/
def Obligations.ReadmissionAndResumption : Prop :=
  ∀ (s : State) (y : Source) (p : List Byte) (c e : Conn) (trig : Trigger),
    let taking : Instr := .sourceHeartbeat y p
    let fits (u : State) (q : Conn) : Prop := u.headActive q.head = true ∧ (u.tier q.head).change = none
      ∧ u.fitsNow [⟨q.head, q.screen⟩] = true
    let fails (u : State) (q : Conn) : Prop := u.headActive q.head = true ∧ (u.tier q.head).change = none
      ∧ u.fitsNow [⟨q.head, q.screen⟩] = false
      ∧ ∀ g ∈ u.overflowing [] [⟨q.head, q.screen⟩], u.tierLimit g ≤ (u.tier g).tier ∧ (u.tier g).change = none
    let covers : Bool := match trig, c.state with
      | .headActive, .waiting | .headActive, .fault | .commit, .waiting | .deskReturn, .suspended .deskAbsent
      | .privacyChange, .suspended .privacy => true
      | _, _ => false
    let moved (t : State) (q : Conn) (st : RecordState) (step : Option BringUpStep) (a : Option Automatic) : Prop :=
      t.conn? q.handle = some { q with
        state := st, step := step, auto := a, reservation := if st = .switching then t.headCharge q.head else 0 }
    let rest (t : State) : Prop := t.readmissions = [] ∧ t.controls = s.controls ∧ t.tiers = s.tiers ∧ t.requests = s.requests
      ∧ t.command = s.command ∧ t.deskLinks = s.deskLinks ∧ t.admissions = [] ∧ t.slots = s.slots ∧ SameSetup s t
    let only (t : State) : Prop := SameRecordsBut c.handle s t ∧ ∀ q, q ≠ c.screen → t.position q = s.position q
    let alone (q : Conn) : Prop := s.conn? q.handle = some q ∧ s.connsAt q.screen = [q] ∧ q.inFlight = false ∧ q.prior = none
    (({ s with readmissions := [] } : State).quiet → s.Bounded → s.readmissions = [⟨c.handle, trig⟩] → alone c →
      (covers = false → Runs taking s fun t => t = { s.heardSource y with readmissions := [] })
      ∧ (covers = true →
        ((s.deskLink c.desk).link.live = false → Runs taking s fun t =>
          moved t c (.suspended .deskAbsent) none none ∧ only t ∧ rest t ∧ t.sent = s.sent)
        ∧ ((s.deskLink c.desk).link.live = true →
          (s.privateToOther c.source c.desk = true → Runs taking s fun t =>
            moved t c (.suspended .privacy) none none ∧ t.isDue c.screen (.card .privacy) = true ∧ only t ∧ rest t)
          ∧ (s.privateToOther c.source c.desk = false →
            (s.headActive c.head = false → Runs taking s fun t => moved t c .waiting none none
              ∧ t.isDue c.screen (.card (s.head c.head).card) = true ∧ only t ∧ rest t ∧ t.sent = s.sent)
            ∧ (fits s c → Runs taking s fun t => moved t c .switching (some .switch) (some .readmission)
              ∧ (t.position c.screen).pending = some (.route c.head) ∧ only t ∧ rest t ∧ t.sent = s.sent)
            ∧ (fails s c → Runs taking s fun t => moved t c (.suspended .budget) none none
              ∧ t.isDue c.screen (.card .bandwidth) = true ∧ t.resumption.list = [c.handle]
              ∧ only t ∧ rest t ∧ t.sent = s.sent)))))
    ∧ (({ s with resumption := ⟨[], false, none, false⟩ } : State).quiet → s.Bounded → alone c → c.state = .suspended .budget →
      (s.resumption = ⟨[c.handle], false, none, true⟩ →
        (fits s c → Runs taking s fun t => moved t c .switching (some .switch) (some .resumption)
          ∧ t.resumption = ⟨[], false, none, false⟩ ∧ only t ∧ rest t ∧ t.sent = s.sent
          ∧ ((s.deskLink c.desk).link.live = true → (t.position c.screen).pending = some (.route c.head)))
        ∧ (fails s c → s.isDue c.screen (s.contentDue c) = true → Runs taking s fun t =>
          moved t c (.suspended .budget) none none ∧ t.resumption = ⟨[c.handle], false, none, false⟩
          ∧ t.positions = s.positions ∧ only t ∧ rest t ∧ t.sent = s.sent))
      ∧ (s.resumption = ⟨[c.handle, e.handle], false, none, true⟩ → alone e → e.state = .suspended .budget →
        c.handle < e.handle → fits s c → fails { s with
          conns := s.conns.map fun q => if q.handle = c.handle then { q with state := .switching } else q } e →
        Runs taking s fun t => moved t c .switching (some .switch) (some .resumption) ∧ moved t e (.suspended .budget) none none
          ∧ t.resumption = ⟨[e.handle], false, none, false⟩ ∧ rest t ∧ t.sent = s.sent
          ∧ ∀ q ∈ s.conns, q.handle ≠ c.handle → q.handle ≠ e.handle → (t.conn? q.handle).map Conn.core = some q.core))

/-- A commit takes effect at its house frame event and completes when its records are stable.  From
08_staged_layouts_and_salvos section 8.4, 01_the_connection_table sections 1.1, 1.2, 1.4 and 1.5,
09_supervisory_line_and_room_lock section 9.4. -/
def Obligations.CommitTakesEffect : Prop :=
  ∀ (s : State) (i : SlotIx) (es : List SlotEntry) (d : Desk) (k : ScreenIx) (c : Conn) (due : Time),
    let q := s.slot i
    let scr : ScreenId := ⟨d, k⟩
    let others : State := {
      s with command := none, slots := s.slots.set i .fresh, conns := s.conns.map fun a => { a with auto := none, scan := none } }
    let calm : Prop := others.quiet ∧ s.Bounded ∧ q.state = .committing ∧ q.owner = some .supervisor ∧ q.arming = none ∧ q.touched = false ∧ q.commitDue = false
      ∧ s.command = some (.commit i) ∧ q.entries = es
    let finished (t : State) (faults : Nat) : Prop := t.slot i = .fresh ∧ t.command = none
      ∧ t.sent.getLast? = some (.supervisory ⟨.done, 0x43, .noDetail, [byte faults]⟩)
    let adopts (e : SlotEntry) : Bool := (s.connsAt e.entry.screen).any fun r =>
      e.entry.target = .head r.head ∧ (r.state = .live ∨ r.state = .switching)
    let created (e : SlotEntry) (h : HeadId) : RecordState :=
      if (s.deskLink e.entry.screen.desk).link.live = false then .suspended .deskAbsent
      else if s.privateToOther h.source e.entry.screen.desk then .suspended .privacy
      else if s.headActive h then .switching else .waiting
    (calm → q.stage = some .beforeEvent → q.awaiting = [] → q.faults = 0 → (es.map (·.entry.screen)).Nodup →
      (∀ e ∈ es, e.marks = true ∧ s.isDue e.entry.screen (s.entryContent e) = true) →
      (∀ e ∈ es, e.charged = (e.entry.target.head?.any fun h => s.headActive h && (s.deskLink e.entry.screen.desk).link.live
        && !s.privateToOther h.source e.entry.screen.desk)) →
      (∀ a ∈ s.conns, a.inFlight = false ∧ a.auto = none ∧ a.state ≠ .admitting ∧ s.drives a.desk a.source = false
        ∧ (s.claims a.source).any (·.desk = a.desk) = false ∧ s.connsAt a.screen = [a]) → s.conns.length + es.length ≤ 64 →
      Runs .houseFrameEvent s fun t =>
        (∀ e ∈ es, (t.position e.entry.screen).shown = s.entryContent e)
        ∧ (∀ e ∈ es, e.entry.target = .blank → t.connsAt e.entry.screen = [])
        ∧ (∀ e ∈ es, ∀ r ∈ s.connsAt e.entry.screen, adopts e = true →
            t.connsAt e.entry.screen = [{ r with origin := .salvo, scan := none, reservation := t.headCharge r.head }])
        ∧ (∀ e ∈ es, ∀ h ∈ e.entry.target.head?, adopts e = false →
            (t.connsAt e.entry.screen).map Conn.core = [(e.entry.screen, h, created e h, .salvo,
              if created e h = .switching then some .lock else none)]
            ∧ (created e h = .switching →
              (t.position e.entry.screen).lockTimer = some (s.now + s.settings.room.lockTimeout)
              ∧ (t.connsAt e.entry.screen).map (·.reservation) = [t.headCharge h]))
        ∧ (∀ a ∈ s.conns, (∀ e ∈ es, e.entry.screen ≠ a.screen) → (t.conn? a.handle).map Conn.core = some a.core
          ∧ ((t.conn? a.handle).bind (·.scan)).map (fun z => (z.list, z.index, z.dwell))
            = a.scan.map fun z => (z.list, z.index, z.dwell))
        ∧ (∀ e ∈ es, adopts e = false → e.entry.target ≠ .blank ∨ s.connsAt e.entry.screen ≠ [] →
            let l := t.noticeList e.entry.screen.desk
            (s.deskLink e.entry.screen.desk).link.live = true →
              l.any (fun a => a.kind = .changed ∧ a.screen = some e.entry.screen.screen) = true ∨ l.any (·.overflow) = true)
        ∧ (if es.any (fun e => (t.connsAt e.entry.screen).any (·.state = .switching)) then
            (t.slot i).stage = some .afterEvent ∧ t.command = s.command
            ∧ (∀ e ∈ es, ∀ r ∈ t.connsAt e.entry.screen, r.state = .switching ↔ r.handle ∈ (t.slot i).awaiting)
            ∧ (∀ h ∈ (t.slot i).awaiting, (t.conn? h).any (fun r => es.any (·.entry.screen = r.screen)) = true)
            ∧ (t.slot i).entries.map (·.marks) = es.map (·.marks) ∧ (t.slot i).entries.all (!·.charged) = true
          else finished t 0)
        ∧ t.controls = s.controls ∧ t.sourceLinks = s.sourceLinks ∧ t.deskLinks = s.deskLinks ∧ SameSetup s t)
    ∧ (calm → q.stage = some .afterEvent → q.awaiting = [c.handle] → s.connsAt scr = [c] →
      s.conn? c.handle = some c → c.state = .switching → c.answerTo = none → c.scan = none → (s.position scr).lockTimer = some due →
      ((s.deskLink d).link.live = true → s.screenExists scr = true → Runs (.locked d [byte k]) s fun t =>
        finished t q.faults ∧ t.conn? c.handle = some { c with
          state := .live, step := none, auto := none, prior := none, reservation := t.headCharge c.head }
        ∧ SameRecordsBut c.handle s t)
      ∧ Runs (.lockTimerExpiry d k) s fun t =>
        finished t (q.faults + 1)
        ∧ t.conn? c.handle = some { c with state := .fault, step := none, auto := none, prior := none, reservation := 0 }
        ∧ SameRecordsBut c.handle s t)

/-- What the reports of the queries hold, byte by byte.  From 01_the_connection_table sections 1.1 to 1.4,
02_heads_and_formats section 2.5, 03_budgets_and_tiers section 3.8, 04_input_control section 4.10, 05_keyboard_and_pointer_path section
5.6, 06_desk_ports section 6.6, 07_scan_lists sections 7.1, 7.3 and 7.7, 08_staged_layouts_and_salvos section 8.1,
09_supervisory_line_and_room_lock section 9.5, 11_frame_layouts section 11.6. -/
def Obligations.ReportsHold : Prop :=
  ∀ (s : State) (d : Desk) (k : ScreenIx) (x : Source) (l : List Conn) (first : Nat),
    let scr : ScreenId := ⟨d, k⟩
    let orNone (b : Option Nat) : Byte := match b with
      | some n => byte n
      | none => 255
    let pair (h : HeadId) : List Byte := [byte h.source, byte h.head]
    let content (c : Content) : List Byte := match c with
      | .route h => 0 :: pair h
      | .card .blank => [1, 255, 255]
      | .card .noSignal => [2, 255, 255]
      | .card .outOfRange => [3, 255, 255]
      | .card .bandwidth => [4, 255, 255]
      | .card .privacy => [5, 255, 255]
      | .card .fault => [6, 255, 255]
    let why (st : RecordState) : List Byte := match st with
      | .waiting => [0, 255]
      | .admitting => [1, 255]
      | .switching => [2, 255]
      | .live => [3, 255]
      | .suspended .budget => [4, 0]
      | .suspended .privacy => [5, 1]
      | .suspended .deskAbsent => [6, 2]
      | .fault => [7, 255]
    let bit (b : Bool) (n : Nat) : Nat := if b then n else 0
    let scan (c : Conn) (z : Scan) : List Byte := countedList pair z.list ++ [byte z.index] ++ le16 z.dwell
      ++ match z.timer with
        | .notStarted => le24 (1000 * z.dwell) ++ [0, flag z.paused, 255]
        | .running due => le24 (due - s.now) ++ [1, flag z.paused, 255]
        | .frozen left => le24 left ++ [2, flag z.paused, byte (bit z.paused 1 + bit (s.roomLock.any (·.sens.scans)) 2
            + bit (c.state = .suspended .deskAbsent) 4 + bit (s.conns.any fun r => r.replaces = some c.handle ∧ r.screen = c.screen) 8
            + bit (c.auto = some .step) 16)]
    let origin (o : Origin) : Byte := match o with
      | .desk => 0
      | .supervisor => 1
      | .salvo => 2
      | .scan => 3
      | .start => 4
    let step (b : Option BringUpStep) : Byte := match b with
      | some .admission => 2
      | some .switch => 3
      | some .lock => 4
      | none => 255
    let record (c : Conn) : List Byte := [byte c.handle, byte c.screen.desk, byte c.screen.screen] ++ pair c.head ++ why c.state
      ++ le16 c.reservation ++ [origin c.origin, step c.step] ++ optGroup (c.scan.map (scan c)) ++ [orNone c.replaces]
    -- the components of a screen charge by their place in R54: record, charged entry, replacement record
    let parts (r : ScreenId) : List (Byte × HeadId) :=
      ((s.conns.filter fun c => c.screen = r && c.replaces = none && (c.state = .switching || c.state = .live)).map
        fun c => ((0 : Byte), c.head))
      ++ (([0, 1, 2, 3] : List SlotIx).flatMap fun i => (s.slot i).entries.filterMap fun e => match e.entry.target with
        | .head h => if ((s.slot i).state = .armed || (s.slot i).state = .committing) && e.charged && e.entry.screen = r
            && s.headActive h then some ((1 : Byte), h) else none
        | .blank => none)
      ++ ((s.conns.filter fun c => c.screen = r && c.replaces.isSome && c.state = .switching).map fun c => ((2 : Byte), c.head))
    let charge (r : ScreenId) : List Byte := le16 (s.screenCharge r)
      ++ countedList (fun p : Byte × HeadId => p.1 :: pair p.2 ++ le16 (s.headCharge p.2)) (parts r)
    let slot (i : SlotIx) : List Byte :=
      let q := s.slot i
      [match q.state with
        | .empty => 0
        | .loaded => 1
        | .armed => 2
        | .committing => 3, match q.owner with
        | some .supervisor => 0
        | some (.desk e) => byte (e + 1)
        | none => 255]
      ++ countedList (fun e : SlotEntry => [byte e.entry.screen.desk, byte e.entry.screen.screen] ++ match e.entry.target with
        | .head h => 0 :: pair h
        | .blank => [1, 0, 0]) q.entries
      ++ (if q.state = .armed ∨ q.state = .committing then bitSet 2 (q.entries.map (·.charged)) else [255, 255])
      ++ [match q.stage with
        | some .beforeEvent => 0
        | some .afterEvent => 1
        | none => 255] ++ optGroup (q.failure.map fun f => [byte f.1, f.2.code])
      ++ [flag (q.arming.isSome || s.admissions.any fun a => a.owner = .revalidation i)]
    let change (c : TierChange) : List Byte := [byte c.old, byte c.new, if c.origin = .restoration then 1 else 0]
    let raw (r : TierRecord) : List Byte := match r.raw with
      | some n => le16 n
      | none => [255, 255]
    let head (h : HeadId) : List Byte := (match s.head h with
        | .absent => [0, 0]
        | .settling f _ => [1, 1] ++ le16 f.width ++ le16 f.height ++ [byte f.refresh, byte f.depth]
        | .active f => [2, 1] ++ le16 f.width ++ le16 f.height ++ [byte f.refresh, byte f.depth]
        | .unsupported f => [3, 1] ++ le16 f.width ++ le16 f.height ++ [byte f.refresh, byte f.depth])
      ++ [byte (s.tier h).tier] ++ optGroup ((s.tier h).change.map change) ++ raw (s.tier h)
    let heads : List HeadId := [⟨x, 0⟩, ⟨x, 1⟩, ⟨x, 2⟩, ⟨x, 3⟩]
    let screens : List ScreenId := [⟨d, 0⟩, ⟨d, 1⟩, ⟨d, 2⟩, ⟨d, 3⟩]
    let mode (m : Mode) : Byte := if m = .priv then 1 else 0
    let sharer := orNone ((s.input x).sharer.map fun a => a.desk.val)
    let drives : Option Source := allSources.find? fun y => (s.control y).drivers.contains d
    let claims : Option Source := allSources.find? fun y => (s.claims y).any (·.desk = d)
    let lock : List Byte := optGroup (s.roomLock.map fun r => [byte (bit r.sens.connections 1 + bit r.sens.control 2
      + bit r.sens.scans 4 + bit r.sens.tiers 8), if r.manner = .hard then 1 else 0])
    let tail (from_ : Nat) : List (Nat × List Byte) := ((s.conns.map fun c : Conn => (c.handle, record c))
      ++ ([0, 1, 2, 3] : List SlotIx).map fun i : SlotIx => (80 + i.val, slot i)).filter fun p => from_ ≤ p.1
    s.Bounded → (∀ i, s.slotReport i = slot i)
      ∧ (s.connsAt scr = l → (∀ c ∈ l, if c.replaces.isSome then c.handle = 64 + d else c.handle < 64) → s.screenReport scr = content (s.position scr).shown
        ++ optGroup ((s.position scr).pending.map content) ++ countedList record l ++ charge scr
        ++ [orNone ((s.markedBy scr).map fun i => i.val)])
      ∧ s.sourceReport x = [match (s.sourceLink x).link with
          | .down => 0
          | .initial => 1
          | .up => 2, byte (s.sourceLink x).headCount] ++ (heads.map head).flatten
        ++ (heads.map fun h => le16 (s.headCharge h)).flatten ++ [byte (s.sourceTotal x)]
        ++ (match s.control x with
          | .free => [0, 255, 255, 255, 255, 255]
          | .held m e _ => [if m = .priv then 9 else 8, byte e, mode m, 255, 255, 255]
          | .shared ms => [10, 255, 255] ++ bitSet 2 (allDesks.map fun e => ms.contains e) ++ [sharer])
        ++ countedList (fun c : Claim => [byte c.desk, byte c.rank, mode c.mode]) (s.claims x)
        ++ le16 (s.settings.sources[x]).controlTimeout ++ le16 (s.settings.sources[x]).shareInterval
        ++ [byte (s.input x).queue.length] ++ optGroup ((s.input x).deferred.map fun e => [match e.body with
          | .keys _ _ => 0
          | .pointer _ _ _ _ => 1
          | .releaseAll => 2]) ++ [orNone ((s.input x).led.map (·.toNat))]
      ∧ ((∀ y z, drives = some y → (s.control z).drivers.contains d = true → z = y) → s.deskReport d =
        [match (s.deskLink d).link with
          | .down => 0
          | .initial => 1
          | .up => 2
          | .lost => 3, byte (s.deskLink d).screenCount, byte (s.settings.desks[d]).rank]
        ++ allSources.map (fun y : Source => match s.right d y with
          | .noRight => (0 : Byte)
          | .view => 1
          | .share => 2
          | .control => 3
          | .priv => 4)
        ++ [orNone (drives.map (·.val)), orNone (claims.map (·.val)),
          orNone (claims.bind fun y => (claimPosition (s.claims y) d)), orNone ((s.target d).map (·.val)), byte (s.deskTotal d)]
        ++ (screens.map fun r => le16 (s.screenCharge r)).flatten
        ++ optGroup ((s.stack d).executing.map fun e => [e.request.body.kind, e.request.number, match e.phase with
          | .step1 => 1
          | .held _ => 1
          | .inFlight => step ((s.conns.find? fun c => c.screen.desk = d && c.answerTo = some .desk).bind (·.step))
          | .frame => 255
          | .recall _ => 255])
        ++ optGroup ((s.stack d).waiting.map fun r => [r.body.kind, r.number])
        ++ countedList (fun a : Notice => [match a.kind with
            | .preempted => 0
            | .forced => 1
            | .granted => 2
            | .idleReleased => 3
            | .privacy => 4
            | .changed => 5, orNone (a.source.map (·.val)), orNone (a.screen.map (·.val)), flag a.overflow]) (s.noticeList d)
        ++ lock)
      ∧ (let status := s.deskReport d ++ [byte (s.settings.desks[d]).linkTimeout] ++ le16 (s.settings.desks[d]).grace
          ++ [flag (s.deskLink d).graceTimer.isSome]
        let given (m : Nat) : List Byte := status ++ countedList s.screenReport (screens.take m)
        let count := min (s.deskLink d).screenCount 4
        ∃ m ≤ 4, s.deskStatusReport d = given m ∧ m ≤ count ∧ (status.length ≤ 244 → (given m).length ≤ 245)
          ∧ (m < count → 245 < (given (m + 1)).length))
      ∧ s.sourceStatusReport x = s.sourceReport x ++ [byte (s.settings.sources[x]).linkTimeout,
          byte (s.settings.sources[x]).tierLimit, byte (s.settings.sources[x]).preferredTier]
      ∧ s.budgetRoom = allDesks.map (fun e => byte (s.deskTotal e)) ++ allSources.map (fun y => byte (s.sourceTotal y))
        ++ countedList (fun h : Handle => [byte h]) s.resumption.list ++ (match s.restoration with
          | .idle => [0, 255, 255]
          | .delaying _ => [1, 255, 255]
          | .walking w => 2 :: match w.mine, w.stopped with
            | some h, _ => pair h
            | none, some h => pair h
            | none, none => [255, 255])
      ∧ s.budgetDesk d = (screens.map charge).flatten
      ∧ s.budgetSource x = (heads.map fun h => byte (s.tier h).tier :: raw (s.tier h) ++ le16 (s.headCharge h)
        ++ [flag (s.carried h)] ++ optGroup ((s.tier h).change.map change)).flatten
      ∧ ∃ m ≤ (tail first).length, let items := ((tail first).take m).map (·.2)
        s.listReport first = countedList id items ++ [orNone ((tail first)[m]?.map (·.1))] ∧ (items.flatten).length ≤ 243
          ∧ ∀ p ∈ (tail first)[m]?, 243 < (items.flatten).length + p.2.length
end

