-- ==== Sys2Proof/Laws/State.lean ====
section
/-!
SUPPORT. One lemma per field for each plain update of the state: what the update writes, and that it writes nothing else.
-/

namespace Sys2Proof.Machine

variable (s : State)

/-! ## `markDesk` -/

@[simp] theorem State.markDesk_powered (d : Desk) : (s.markDesk d).powered = s.powered := rfl
@[simp] theorem State.markDesk_now (d : Desk) : (s.markDesk d).now = s.now := rfl
@[simp] theorem State.markDesk_framePhase (d : Desk) : (s.markDesk d).framePhase = s.framePhase := rfl
@[simp] theorem State.markDesk_frameRate (d : Desk) : (s.markDesk d).frameRate = s.frameRate := rfl
@[simp] theorem State.markDesk_conns (d : Desk) : (s.markDesk d).conns = s.conns := rfl
@[simp] theorem State.markDesk_positions (d : Desk) : (s.markDesk d).positions = s.positions := rfl
@[simp] theorem State.markDesk_readmissions (d : Desk) : (s.markDesk d).readmissions = s.readmissions := rfl
@[simp] theorem State.markDesk_sourceLinks (d : Desk) : (s.markDesk d).sourceLinks = s.sourceLinks := rfl
@[simp] theorem State.markDesk_tiers (d : Desk) : (s.markDesk d).tiers = s.tiers := rfl
@[simp] theorem State.markDesk_admissions (d : Desk) : (s.markDesk d).admissions = s.admissions := rfl
@[simp] theorem State.markDesk_nextAdmission (d : Desk) : (s.markDesk d).nextAdmission = s.nextAdmission := rfl
@[simp] theorem State.markDesk_resumption (d : Desk) : (s.markDesk d).resumption = s.resumption := rfl
@[simp] theorem State.markDesk_restoration (d : Desk) : (s.markDesk d).restoration = s.restoration := rfl
@[simp] theorem State.markDesk_expiredUnderLock (d : Desk) : (s.markDesk d).expiredUnderLock = s.expiredUnderLock := rfl
@[simp] theorem State.markDesk_controls (d : Desk) : (s.markDesk d).controls = s.controls := rfl
@[simp] theorem State.markDesk_arrivals (d : Desk) : (s.markDesk d).arrivals = s.arrivals := rfl
@[simp] theorem State.markDesk_reports (d : Desk) : (s.markDesk d).reports = s.reports := rfl
@[simp] theorem State.markDesk_movedTargets (d : Desk) : (s.markDesk d).movedTargets = s.movedTargets := rfl
@[simp] theorem State.markDesk_inputs (d : Desk) : (s.markDesk d).inputs = s.inputs := rfl
@[simp] theorem State.markDesk_targets (d : Desk) : (s.markDesk d).targets = s.targets := rfl
@[simp] theorem State.markDesk_deskLinks (d : Desk) : (s.markDesk d).deskLinks = s.deskLinks := rfl
@[simp] theorem State.markDesk_requests (d : Desk) : (s.markDesk d).requests = s.requests := rfl
@[simp] theorem State.markDesk_notices (d : Desk) : (s.markDesk d).notices = s.notices := rfl
@[simp] theorem State.markDesk_slots (d : Desk) : (s.markDesk d).slots = s.slots := rfl
@[simp] theorem State.markDesk_command (d : Desk) : (s.markDesk d).command = s.command := rfl
@[simp] theorem State.markDesk_roomLock (d : Desk) : (s.markDesk d).roomLock = s.roomLock := rfl
@[simp] theorem State.markDesk_marks (d : Desk) : (s.markDesk d).marks = { s.marks with desks := s.marks.desks.set d true } := rfl
@[simp] theorem State.markDesk_settings (d : Desk) : (s.markDesk d).settings = s.settings := rfl
@[simp] theorem State.markDesk_store (d : Desk) : (s.markDesk d).store = s.store := rfl
@[simp] theorem State.markDesk_sourceReceivers (d : Desk) : (s.markDesk d).sourceReceivers = s.sourceReceivers := rfl
@[simp] theorem State.markDesk_deskReceivers (d : Desk) : (s.markDesk d).deskReceivers = s.deskReceivers := rfl
@[simp] theorem State.markDesk_supervisoryReceiver (d : Desk) : (s.markDesk d).supervisoryReceiver = s.supervisoryReceiver := rfl
@[simp] theorem State.markDesk_gapTimer (d : Desk) : (s.markDesk d).gapTimer = s.gapTimer := rfl
@[simp] theorem State.markDesk_sent (d : Desk) : (s.markDesk d).sent = s.sent := rfl
@[simp] theorem State.markDesk_pending (d : Desk) : (s.markDesk d).pending = s.pending := rfl

/-! ## `markSource` -/

@[simp] theorem State.markSource_powered (x : Source) : (s.markSource x).powered = s.powered := rfl
@[simp] theorem State.markSource_now (x : Source) : (s.markSource x).now = s.now := rfl
@[simp] theorem State.markSource_framePhase (x : Source) : (s.markSource x).framePhase = s.framePhase := rfl
@[simp] theorem State.markSource_frameRate (x : Source) : (s.markSource x).frameRate = s.frameRate := rfl
@[simp] theorem State.markSource_conns (x : Source) : (s.markSource x).conns = s.conns := rfl
@[simp] theorem State.markSource_positions (x : Source) : (s.markSource x).positions = s.positions := rfl
@[simp] theorem State.markSource_readmissions (x : Source) : (s.markSource x).readmissions = s.readmissions := rfl
@[simp] theorem State.markSource_sourceLinks (x : Source) : (s.markSource x).sourceLinks = s.sourceLinks := rfl
@[simp] theorem State.markSource_tiers (x : Source) : (s.markSource x).tiers = s.tiers := rfl
@[simp] theorem State.markSource_admissions (x : Source) : (s.markSource x).admissions = s.admissions := rfl
@[simp] theorem State.markSource_nextAdmission (x : Source) : (s.markSource x).nextAdmission = s.nextAdmission := rfl
@[simp] theorem State.markSource_resumption (x : Source) : (s.markSource x).resumption = s.resumption := rfl
@[simp] theorem State.markSource_restoration (x : Source) : (s.markSource x).restoration = s.restoration := rfl
@[simp] theorem State.markSource_expiredUnderLock (x : Source) : (s.markSource x).expiredUnderLock = s.expiredUnderLock := rfl
@[simp] theorem State.markSource_controls (x : Source) : (s.markSource x).controls = s.controls := rfl
@[simp] theorem State.markSource_arrivals (x : Source) : (s.markSource x).arrivals = s.arrivals := rfl
@[simp] theorem State.markSource_reports (x : Source) : (s.markSource x).reports = s.reports := rfl
@[simp] theorem State.markSource_movedTargets (x : Source) : (s.markSource x).movedTargets = s.movedTargets := rfl
@[simp] theorem State.markSource_inputs (x : Source) : (s.markSource x).inputs = s.inputs := rfl
@[simp] theorem State.markSource_targets (x : Source) : (s.markSource x).targets = s.targets := rfl
@[simp] theorem State.markSource_deskLinks (x : Source) : (s.markSource x).deskLinks = s.deskLinks := rfl
@[simp] theorem State.markSource_requests (x : Source) : (s.markSource x).requests = s.requests := rfl
@[simp] theorem State.markSource_notices (x : Source) : (s.markSource x).notices = s.notices := rfl
@[simp] theorem State.markSource_slots (x : Source) : (s.markSource x).slots = s.slots := rfl
@[simp] theorem State.markSource_command (x : Source) : (s.markSource x).command = s.command := rfl
@[simp] theorem State.markSource_roomLock (x : Source) : (s.markSource x).roomLock = s.roomLock := rfl
@[simp] theorem State.markSource_marks (x : Source) : (s.markSource x).marks = { s.marks with sources := s.marks.sources.set x true } := rfl
@[simp] theorem State.markSource_settings (x : Source) : (s.markSource x).settings = s.settings := rfl
@[simp] theorem State.markSource_store (x : Source) : (s.markSource x).store = s.store := rfl
@[simp] theorem State.markSource_sourceReceivers (x : Source) : (s.markSource x).sourceReceivers = s.sourceReceivers := rfl
@[simp] theorem State.markSource_deskReceivers (x : Source) : (s.markSource x).deskReceivers = s.deskReceivers := rfl
@[simp] theorem State.markSource_supervisoryReceiver (x : Source) : (s.markSource x).supervisoryReceiver = s.supervisoryReceiver := rfl
@[simp] theorem State.markSource_gapTimer (x : Source) : (s.markSource x).gapTimer = s.gapTimer := rfl
@[simp] theorem State.markSource_sent (x : Source) : (s.markSource x).sent = s.sent := rfl
@[simp] theorem State.markSource_pending (x : Source) : (s.markSource x).pending = s.pending := rfl

/-! ## `markSlot` -/

@[simp] theorem State.markSlot_powered (i : SlotIx) : (s.markSlot i).powered = s.powered := rfl
@[simp] theorem State.markSlot_now (i : SlotIx) : (s.markSlot i).now = s.now := rfl
@[simp] theorem State.markSlot_framePhase (i : SlotIx) : (s.markSlot i).framePhase = s.framePhase := rfl
@[simp] theorem State.markSlot_frameRate (i : SlotIx) : (s.markSlot i).frameRate = s.frameRate := rfl
@[simp] theorem State.markSlot_conns (i : SlotIx) : (s.markSlot i).conns = s.conns := rfl
@[simp] theorem State.markSlot_positions (i : SlotIx) : (s.markSlot i).positions = s.positions := rfl
@[simp] theorem State.markSlot_readmissions (i : SlotIx) : (s.markSlot i).readmissions = s.readmissions := rfl
@[simp] theorem State.markSlot_sourceLinks (i : SlotIx) : (s.markSlot i).sourceLinks = s.sourceLinks := rfl
@[simp] theorem State.markSlot_tiers (i : SlotIx) : (s.markSlot i).tiers = s.tiers := rfl
@[simp] theorem State.markSlot_admissions (i : SlotIx) : (s.markSlot i).admissions = s.admissions := rfl
@[simp] theorem State.markSlot_nextAdmission (i : SlotIx) : (s.markSlot i).nextAdmission = s.nextAdmission := rfl
@[simp] theorem State.markSlot_resumption (i : SlotIx) : (s.markSlot i).resumption = s.resumption := rfl
@[simp] theorem State.markSlot_restoration (i : SlotIx) : (s.markSlot i).restoration = s.restoration := rfl
@[simp] theorem State.markSlot_expiredUnderLock (i : SlotIx) : (s.markSlot i).expiredUnderLock = s.expiredUnderLock := rfl
@[simp] theorem State.markSlot_controls (i : SlotIx) : (s.markSlot i).controls = s.controls := rfl
@[simp] theorem State.markSlot_arrivals (i : SlotIx) : (s.markSlot i).arrivals = s.arrivals := rfl
@[simp] theorem State.markSlot_reports (i : SlotIx) : (s.markSlot i).reports = s.reports := rfl
@[simp] theorem State.markSlot_movedTargets (i : SlotIx) : (s.markSlot i).movedTargets = s.movedTargets := rfl
@[simp] theorem State.markSlot_inputs (i : SlotIx) : (s.markSlot i).inputs = s.inputs := rfl
@[simp] theorem State.markSlot_targets (i : SlotIx) : (s.markSlot i).targets = s.targets := rfl
@[simp] theorem State.markSlot_deskLinks (i : SlotIx) : (s.markSlot i).deskLinks = s.deskLinks := rfl
@[simp] theorem State.markSlot_requests (i : SlotIx) : (s.markSlot i).requests = s.requests := rfl
@[simp] theorem State.markSlot_notices (i : SlotIx) : (s.markSlot i).notices = s.notices := rfl
@[simp] theorem State.markSlot_slots (i : SlotIx) : (s.markSlot i).slots = s.slots := rfl
@[simp] theorem State.markSlot_command (i : SlotIx) : (s.markSlot i).command = s.command := rfl
@[simp] theorem State.markSlot_roomLock (i : SlotIx) : (s.markSlot i).roomLock = s.roomLock := rfl
@[simp] theorem State.markSlot_marks (i : SlotIx) : (s.markSlot i).marks = { s.marks with slots := s.marks.slots.set i true } := rfl
@[simp] theorem State.markSlot_settings (i : SlotIx) : (s.markSlot i).settings = s.settings := rfl
@[simp] theorem State.markSlot_store (i : SlotIx) : (s.markSlot i).store = s.store := rfl
@[simp] theorem State.markSlot_sourceReceivers (i : SlotIx) : (s.markSlot i).sourceReceivers = s.sourceReceivers := rfl
@[simp] theorem State.markSlot_deskReceivers (i : SlotIx) : (s.markSlot i).deskReceivers = s.deskReceivers := rfl
@[simp] theorem State.markSlot_supervisoryReceiver (i : SlotIx) : (s.markSlot i).supervisoryReceiver = s.supervisoryReceiver := rfl
@[simp] theorem State.markSlot_gapTimer (i : SlotIx) : (s.markSlot i).gapTimer = s.gapTimer := rfl
@[simp] theorem State.markSlot_sent (i : SlotIx) : (s.markSlot i).sent = s.sent := rfl
@[simp] theorem State.markSlot_pending (i : SlotIx) : (s.markSlot i).pending = s.pending := rfl

/-! ## `markRoom` -/

@[simp] theorem State.markRoom_powered : (s.markRoom).powered = s.powered := rfl
@[simp] theorem State.markRoom_now : (s.markRoom).now = s.now := rfl
@[simp] theorem State.markRoom_framePhase : (s.markRoom).framePhase = s.framePhase := rfl
@[simp] theorem State.markRoom_frameRate : (s.markRoom).frameRate = s.frameRate := rfl
@[simp] theorem State.markRoom_conns : (s.markRoom).conns = s.conns := rfl
@[simp] theorem State.markRoom_positions : (s.markRoom).positions = s.positions := rfl
@[simp] theorem State.markRoom_readmissions : (s.markRoom).readmissions = s.readmissions := rfl
@[simp] theorem State.markRoom_sourceLinks : (s.markRoom).sourceLinks = s.sourceLinks := rfl
@[simp] theorem State.markRoom_tiers : (s.markRoom).tiers = s.tiers := rfl
@[simp] theorem State.markRoom_admissions : (s.markRoom).admissions = s.admissions := rfl
@[simp] theorem State.markRoom_nextAdmission : (s.markRoom).nextAdmission = s.nextAdmission := rfl
@[simp] theorem State.markRoom_resumption : (s.markRoom).resumption = s.resumption := rfl
@[simp] theorem State.markRoom_restoration : (s.markRoom).restoration = s.restoration := rfl
@[simp] theorem State.markRoom_expiredUnderLock : (s.markRoom).expiredUnderLock = s.expiredUnderLock := rfl
@[simp] theorem State.markRoom_controls : (s.markRoom).controls = s.controls := rfl
@[simp] theorem State.markRoom_arrivals : (s.markRoom).arrivals = s.arrivals := rfl
@[simp] theorem State.markRoom_reports : (s.markRoom).reports = s.reports := rfl
@[simp] theorem State.markRoom_movedTargets : (s.markRoom).movedTargets = s.movedTargets := rfl
@[simp] theorem State.markRoom_inputs : (s.markRoom).inputs = s.inputs := rfl
@[simp] theorem State.markRoom_targets : (s.markRoom).targets = s.targets := rfl
@[simp] theorem State.markRoom_deskLinks : (s.markRoom).deskLinks = s.deskLinks := rfl
@[simp] theorem State.markRoom_requests : (s.markRoom).requests = s.requests := rfl
@[simp] theorem State.markRoom_notices : (s.markRoom).notices = s.notices := rfl
@[simp] theorem State.markRoom_slots : (s.markRoom).slots = s.slots := rfl
@[simp] theorem State.markRoom_command : (s.markRoom).command = s.command := rfl
@[simp] theorem State.markRoom_roomLock : (s.markRoom).roomLock = s.roomLock := rfl
@[simp] theorem State.markRoom_marks : (s.markRoom).marks = { s.marks with room := true } := rfl
@[simp] theorem State.markRoom_settings : (s.markRoom).settings = s.settings := rfl
@[simp] theorem State.markRoom_store : (s.markRoom).store = s.store := rfl
@[simp] theorem State.markRoom_sourceReceivers : (s.markRoom).sourceReceivers = s.sourceReceivers := rfl
@[simp] theorem State.markRoom_deskReceivers : (s.markRoom).deskReceivers = s.deskReceivers := rfl
@[simp] theorem State.markRoom_supervisoryReceiver : (s.markRoom).supervisoryReceiver = s.supervisoryReceiver := rfl
@[simp] theorem State.markRoom_gapTimer : (s.markRoom).gapTimer = s.gapTimer := rfl
@[simp] theorem State.markRoom_sent : (s.markRoom).sent = s.sent := rfl
@[simp] theorem State.markRoom_pending : (s.markRoom).pending = s.pending := rfl

/-! ## `markStore` -/

@[simp] theorem State.markStore_powered : (s.markStore).powered = s.powered := rfl
@[simp] theorem State.markStore_now : (s.markStore).now = s.now := rfl
@[simp] theorem State.markStore_framePhase : (s.markStore).framePhase = s.framePhase := rfl
@[simp] theorem State.markStore_frameRate : (s.markStore).frameRate = s.frameRate := rfl
@[simp] theorem State.markStore_conns : (s.markStore).conns = s.conns := rfl
@[simp] theorem State.markStore_positions : (s.markStore).positions = s.positions := rfl
@[simp] theorem State.markStore_readmissions : (s.markStore).readmissions = s.readmissions := rfl
@[simp] theorem State.markStore_sourceLinks : (s.markStore).sourceLinks = s.sourceLinks := rfl
@[simp] theorem State.markStore_tiers : (s.markStore).tiers = s.tiers := rfl
@[simp] theorem State.markStore_admissions : (s.markStore).admissions = s.admissions := rfl
@[simp] theorem State.markStore_nextAdmission : (s.markStore).nextAdmission = s.nextAdmission := rfl
@[simp] theorem State.markStore_resumption : (s.markStore).resumption = s.resumption := rfl
@[simp] theorem State.markStore_restoration : (s.markStore).restoration = s.restoration := rfl
@[simp] theorem State.markStore_expiredUnderLock : (s.markStore).expiredUnderLock = s.expiredUnderLock := rfl
@[simp] theorem State.markStore_controls : (s.markStore).controls = s.controls := rfl
@[simp] theorem State.markStore_arrivals : (s.markStore).arrivals = s.arrivals := rfl
@[simp] theorem State.markStore_reports : (s.markStore).reports = s.reports := rfl
@[simp] theorem State.markStore_movedTargets : (s.markStore).movedTargets = s.movedTargets := rfl
@[simp] theorem State.markStore_inputs : (s.markStore).inputs = s.inputs := rfl
@[simp] theorem State.markStore_targets : (s.markStore).targets = s.targets := rfl
@[simp] theorem State.markStore_deskLinks : (s.markStore).deskLinks = s.deskLinks := rfl
@[simp] theorem State.markStore_requests : (s.markStore).requests = s.requests := rfl
@[simp] theorem State.markStore_notices : (s.markStore).notices = s.notices := rfl
@[simp] theorem State.markStore_slots : (s.markStore).slots = s.slots := rfl
@[simp] theorem State.markStore_command : (s.markStore).command = s.command := rfl
@[simp] theorem State.markStore_roomLock : (s.markStore).roomLock = s.roomLock := rfl
@[simp] theorem State.markStore_marks : (s.markStore).marks = { s.marks with store := true } := rfl
@[simp] theorem State.markStore_settings : (s.markStore).settings = s.settings := rfl
@[simp] theorem State.markStore_store : (s.markStore).store = s.store := rfl
@[simp] theorem State.markStore_sourceReceivers : (s.markStore).sourceReceivers = s.sourceReceivers := rfl
@[simp] theorem State.markStore_deskReceivers : (s.markStore).deskReceivers = s.deskReceivers := rfl
@[simp] theorem State.markStore_supervisoryReceiver : (s.markStore).supervisoryReceiver = s.supervisoryReceiver := rfl
@[simp] theorem State.markStore_gapTimer : (s.markStore).gapTimer = s.gapTimer := rfl
@[simp] theorem State.markStore_sent : (s.markStore).sent = s.sent := rfl
@[simp] theorem State.markStore_pending : (s.markStore).pending = s.pending := rfl

/-! ## `markSettingsFault` -/

@[simp] theorem State.markSettingsFault_powered : (s.markSettingsFault).powered = s.powered := rfl
@[simp] theorem State.markSettingsFault_now : (s.markSettingsFault).now = s.now := rfl
@[simp] theorem State.markSettingsFault_framePhase : (s.markSettingsFault).framePhase = s.framePhase := rfl
@[simp] theorem State.markSettingsFault_frameRate : (s.markSettingsFault).frameRate = s.frameRate := rfl
@[simp] theorem State.markSettingsFault_conns : (s.markSettingsFault).conns = s.conns := rfl
@[simp] theorem State.markSettingsFault_positions : (s.markSettingsFault).positions = s.positions := rfl
@[simp] theorem State.markSettingsFault_readmissions : (s.markSettingsFault).readmissions = s.readmissions := rfl
@[simp] theorem State.markSettingsFault_sourceLinks : (s.markSettingsFault).sourceLinks = s.sourceLinks := rfl
@[simp] theorem State.markSettingsFault_tiers : (s.markSettingsFault).tiers = s.tiers := rfl
@[simp] theorem State.markSettingsFault_admissions : (s.markSettingsFault).admissions = s.admissions := rfl
@[simp] theorem State.markSettingsFault_nextAdmission : (s.markSettingsFault).nextAdmission = s.nextAdmission := rfl
@[simp] theorem State.markSettingsFault_resumption : (s.markSettingsFault).resumption = s.resumption := rfl
@[simp] theorem State.markSettingsFault_restoration : (s.markSettingsFault).restoration = s.restoration := rfl
@[simp] theorem State.markSettingsFault_expiredUnderLock : (s.markSettingsFault).expiredUnderLock = s.expiredUnderLock := rfl
@[simp] theorem State.markSettingsFault_controls : (s.markSettingsFault).controls = s.controls := rfl
@[simp] theorem State.markSettingsFault_arrivals : (s.markSettingsFault).arrivals = s.arrivals := rfl
@[simp] theorem State.markSettingsFault_reports : (s.markSettingsFault).reports = s.reports := rfl
@[simp] theorem State.markSettingsFault_movedTargets : (s.markSettingsFault).movedTargets = s.movedTargets := rfl
@[simp] theorem State.markSettingsFault_inputs : (s.markSettingsFault).inputs = s.inputs := rfl
@[simp] theorem State.markSettingsFault_targets : (s.markSettingsFault).targets = s.targets := rfl
@[simp] theorem State.markSettingsFault_deskLinks : (s.markSettingsFault).deskLinks = s.deskLinks := rfl
@[simp] theorem State.markSettingsFault_requests : (s.markSettingsFault).requests = s.requests := rfl
@[simp] theorem State.markSettingsFault_notices : (s.markSettingsFault).notices = s.notices := rfl
@[simp] theorem State.markSettingsFault_slots : (s.markSettingsFault).slots = s.slots := rfl
@[simp] theorem State.markSettingsFault_command : (s.markSettingsFault).command = s.command := rfl
@[simp] theorem State.markSettingsFault_roomLock : (s.markSettingsFault).roomLock = s.roomLock := rfl
@[simp] theorem State.markSettingsFault_marks : (s.markSettingsFault).marks = { s.marks with settingsFault := true } := rfl
@[simp] theorem State.markSettingsFault_settings : (s.markSettingsFault).settings = s.settings := rfl
@[simp] theorem State.markSettingsFault_store : (s.markSettingsFault).store = s.store := rfl
@[simp] theorem State.markSettingsFault_sourceReceivers : (s.markSettingsFault).sourceReceivers = s.sourceReceivers := rfl
@[simp] theorem State.markSettingsFault_deskReceivers : (s.markSettingsFault).deskReceivers = s.deskReceivers := rfl
@[simp] theorem State.markSettingsFault_supervisoryReceiver : (s.markSettingsFault).supervisoryReceiver = s.supervisoryReceiver := rfl
@[simp] theorem State.markSettingsFault_gapTimer : (s.markSettingsFault).gapTimer = s.gapTimer := rfl
@[simp] theorem State.markSettingsFault_sent : (s.markSettingsFault).sent = s.sent := rfl
@[simp] theorem State.markSettingsFault_pending : (s.markSettingsFault).pending = s.pending := rfl

/-! ## `emit` -/

@[simp] theorem State.emit_powered (x : Sent) : (s.emit x).powered = s.powered := rfl
@[simp] theorem State.emit_now (x : Sent) : (s.emit x).now = s.now := rfl
@[simp] theorem State.emit_framePhase (x : Sent) : (s.emit x).framePhase = s.framePhase := rfl
@[simp] theorem State.emit_frameRate (x : Sent) : (s.emit x).frameRate = s.frameRate := rfl
@[simp] theorem State.emit_conns (x : Sent) : (s.emit x).conns = s.conns := rfl
@[simp] theorem State.emit_positions (x : Sent) : (s.emit x).positions = s.positions := rfl
@[simp] theorem State.emit_readmissions (x : Sent) : (s.emit x).readmissions = s.readmissions := rfl
@[simp] theorem State.emit_sourceLinks (x : Sent) : (s.emit x).sourceLinks = s.sourceLinks := rfl
@[simp] theorem State.emit_tiers (x : Sent) : (s.emit x).tiers = s.tiers := rfl
@[simp] theorem State.emit_admissions (x : Sent) : (s.emit x).admissions = s.admissions := rfl
@[simp] theorem State.emit_nextAdmission (x : Sent) : (s.emit x).nextAdmission = s.nextAdmission := rfl
@[simp] theorem State.emit_resumption (x : Sent) : (s.emit x).resumption = s.resumption := rfl
@[simp] theorem State.emit_restoration (x : Sent) : (s.emit x).restoration = s.restoration := rfl
@[simp] theorem State.emit_expiredUnderLock (x : Sent) : (s.emit x).expiredUnderLock = s.expiredUnderLock := rfl
@[simp] theorem State.emit_controls (x : Sent) : (s.emit x).controls = s.controls := rfl
@[simp] theorem State.emit_arrivals (x : Sent) : (s.emit x).arrivals = s.arrivals := rfl
@[simp] theorem State.emit_reports (x : Sent) : (s.emit x).reports = s.reports := rfl
@[simp] theorem State.emit_movedTargets (x : Sent) : (s.emit x).movedTargets = s.movedTargets := rfl
@[simp] theorem State.emit_inputs (x : Sent) : (s.emit x).inputs = s.inputs := rfl
@[simp] theorem State.emit_targets (x : Sent) : (s.emit x).targets = s.targets := rfl
@[simp] theorem State.emit_deskLinks (x : Sent) : (s.emit x).deskLinks = s.deskLinks := rfl
@[simp] theorem State.emit_requests (x : Sent) : (s.emit x).requests = s.requests := rfl
@[simp] theorem State.emit_notices (x : Sent) : (s.emit x).notices = s.notices := rfl
@[simp] theorem State.emit_slots (x : Sent) : (s.emit x).slots = s.slots := rfl
@[simp] theorem State.emit_command (x : Sent) : (s.emit x).command = s.command := rfl
@[simp] theorem State.emit_roomLock (x : Sent) : (s.emit x).roomLock = s.roomLock := rfl
@[simp] theorem State.emit_marks (x : Sent) : (s.emit x).marks = s.marks := rfl
@[simp] theorem State.emit_settings (x : Sent) : (s.emit x).settings = s.settings := rfl
@[simp] theorem State.emit_store (x : Sent) : (s.emit x).store = s.store := rfl
@[simp] theorem State.emit_sourceReceivers (x : Sent) : (s.emit x).sourceReceivers = s.sourceReceivers := rfl
@[simp] theorem State.emit_deskReceivers (x : Sent) : (s.emit x).deskReceivers = s.deskReceivers := rfl
@[simp] theorem State.emit_supervisoryReceiver (x : Sent) : (s.emit x).supervisoryReceiver = s.supervisoryReceiver := rfl
@[simp] theorem State.emit_gapTimer (x : Sent) : (s.emit x).gapTimer = s.gapTimer := rfl
@[simp] theorem State.emit_sent (x : Sent) : (s.emit x).sent = s.sent ++ [x] := rfl
@[simp] theorem State.emit_pending (x : Sent) : (s.emit x).pending = s.pending := rfl

/-! ## `setDeskLink` -/

@[simp] theorem State.setDeskLink_powered (d : Desk) (l : DeskLink) : (s.setDeskLink d l).powered = s.powered := rfl
@[simp] theorem State.setDeskLink_now (d : Desk) (l : DeskLink) : (s.setDeskLink d l).now = s.now := rfl
@[simp] theorem State.setDeskLink_framePhase (d : Desk) (l : DeskLink) : (s.setDeskLink d l).framePhase = s.framePhase := rfl
@[simp] theorem State.setDeskLink_frameRate (d : Desk) (l : DeskLink) : (s.setDeskLink d l).frameRate = s.frameRate := rfl
@[simp] theorem State.setDeskLink_conns (d : Desk) (l : DeskLink) : (s.setDeskLink d l).conns = s.conns := rfl
@[simp] theorem State.setDeskLink_positions (d : Desk) (l : DeskLink) : (s.setDeskLink d l).positions = s.positions := rfl
@[simp] theorem State.setDeskLink_readmissions (d : Desk) (l : DeskLink) : (s.setDeskLink d l).readmissions = s.readmissions := rfl
@[simp] theorem State.setDeskLink_sourceLinks (d : Desk) (l : DeskLink) : (s.setDeskLink d l).sourceLinks = s.sourceLinks := rfl
@[simp] theorem State.setDeskLink_tiers (d : Desk) (l : DeskLink) : (s.setDeskLink d l).tiers = s.tiers := rfl
@[simp] theorem State.setDeskLink_admissions (d : Desk) (l : DeskLink) : (s.setDeskLink d l).admissions = s.admissions := rfl
@[simp] theorem State.setDeskLink_nextAdmission (d : Desk) (l : DeskLink) : (s.setDeskLink d l).nextAdmission = s.nextAdmission := rfl
@[simp] theorem State.setDeskLink_resumption (d : Desk) (l : DeskLink) : (s.setDeskLink d l).resumption = s.resumption := rfl
@[simp] theorem State.setDeskLink_restoration (d : Desk) (l : DeskLink) : (s.setDeskLink d l).restoration = s.restoration := rfl
@[simp] theorem State.setDeskLink_expiredUnderLock (d : Desk) (l : DeskLink) : (s.setDeskLink d l).expiredUnderLock = s.expiredUnderLock := rfl
@[simp] theorem State.setDeskLink_controls (d : Desk) (l : DeskLink) : (s.setDeskLink d l).controls = s.controls := rfl
@[simp] theorem State.setDeskLink_arrivals (d : Desk) (l : DeskLink) : (s.setDeskLink d l).arrivals = s.arrivals := rfl
@[simp] theorem State.setDeskLink_reports (d : Desk) (l : DeskLink) : (s.setDeskLink d l).reports = s.reports := rfl
@[simp] theorem State.setDeskLink_movedTargets (d : Desk) (l : DeskLink) : (s.setDeskLink d l).movedTargets = s.movedTargets := rfl
@[simp] theorem State.setDeskLink_inputs (d : Desk) (l : DeskLink) : (s.setDeskLink d l).inputs = s.inputs := rfl
@[simp] theorem State.setDeskLink_targets (d : Desk) (l : DeskLink) : (s.setDeskLink d l).targets = s.targets := rfl
@[simp] theorem State.setDeskLink_deskLinks (d : Desk) (l : DeskLink) : (s.setDeskLink d l).deskLinks = s.deskLinks.set d l := rfl
@[simp] theorem State.setDeskLink_requests (d : Desk) (l : DeskLink) : (s.setDeskLink d l).requests = s.requests := rfl
@[simp] theorem State.setDeskLink_notices (d : Desk) (l : DeskLink) : (s.setDeskLink d l).notices = s.notices := rfl
@[simp] theorem State.setDeskLink_slots (d : Desk) (l : DeskLink) : (s.setDeskLink d l).slots = s.slots := rfl
@[simp] theorem State.setDeskLink_command (d : Desk) (l : DeskLink) : (s.setDeskLink d l).command = s.command := rfl
@[simp] theorem State.setDeskLink_roomLock (d : Desk) (l : DeskLink) : (s.setDeskLink d l).roomLock = s.roomLock := rfl
@[simp] theorem State.setDeskLink_marks (d : Desk) (l : DeskLink) : (s.setDeskLink d l).marks = s.marks := rfl
@[simp] theorem State.setDeskLink_settings (d : Desk) (l : DeskLink) : (s.setDeskLink d l).settings = s.settings := rfl
@[simp] theorem State.setDeskLink_store (d : Desk) (l : DeskLink) : (s.setDeskLink d l).store = s.store := rfl
@[simp] theorem State.setDeskLink_sourceReceivers (d : Desk) (l : DeskLink) : (s.setDeskLink d l).sourceReceivers = s.sourceReceivers := rfl
@[simp] theorem State.setDeskLink_deskReceivers (d : Desk) (l : DeskLink) : (s.setDeskLink d l).deskReceivers = s.deskReceivers := rfl
@[simp] theorem State.setDeskLink_supervisoryReceiver (d : Desk) (l : DeskLink) : (s.setDeskLink d l).supervisoryReceiver = s.supervisoryReceiver := rfl
@[simp] theorem State.setDeskLink_gapTimer (d : Desk) (l : DeskLink) : (s.setDeskLink d l).gapTimer = s.gapTimer := rfl
@[simp] theorem State.setDeskLink_sent (d : Desk) (l : DeskLink) : (s.setDeskLink d l).sent = s.sent := rfl
@[simp] theorem State.setDeskLink_pending (d : Desk) (l : DeskLink) : (s.setDeskLink d l).pending = s.pending := rfl

/-! ## `setStack` -/

@[simp] theorem State.setStack_powered (d : Desk) (k : Stack) : (s.setStack d k).powered = s.powered := rfl
@[simp] theorem State.setStack_now (d : Desk) (k : Stack) : (s.setStack d k).now = s.now := rfl
@[simp] theorem State.setStack_framePhase (d : Desk) (k : Stack) : (s.setStack d k).framePhase = s.framePhase := rfl
@[simp] theorem State.setStack_frameRate (d : Desk) (k : Stack) : (s.setStack d k).frameRate = s.frameRate := rfl
@[simp] theorem State.setStack_conns (d : Desk) (k : Stack) : (s.setStack d k).conns = s.conns := rfl
@[simp] theorem State.setStack_positions (d : Desk) (k : Stack) : (s.setStack d k).positions = s.positions := rfl
@[simp] theorem State.setStack_readmissions (d : Desk) (k : Stack) : (s.setStack d k).readmissions = s.readmissions := rfl
@[simp] theorem State.setStack_sourceLinks (d : Desk) (k : Stack) : (s.setStack d k).sourceLinks = s.sourceLinks := rfl
@[simp] theorem State.setStack_tiers (d : Desk) (k : Stack) : (s.setStack d k).tiers = s.tiers := rfl
@[simp] theorem State.setStack_admissions (d : Desk) (k : Stack) : (s.setStack d k).admissions = s.admissions := rfl
@[simp] theorem State.setStack_nextAdmission (d : Desk) (k : Stack) : (s.setStack d k).nextAdmission = s.nextAdmission := rfl
@[simp] theorem State.setStack_resumption (d : Desk) (k : Stack) : (s.setStack d k).resumption = s.resumption := rfl
@[simp] theorem State.setStack_restoration (d : Desk) (k : Stack) : (s.setStack d k).restoration = s.restoration := rfl
@[simp] theorem State.setStack_expiredUnderLock (d : Desk) (k : Stack) : (s.setStack d k).expiredUnderLock = s.expiredUnderLock := rfl
@[simp] theorem State.setStack_controls (d : Desk) (k : Stack) : (s.setStack d k).controls = s.controls := rfl
@[simp] theorem State.setStack_arrivals (d : Desk) (k : Stack) : (s.setStack d k).arrivals = s.arrivals := rfl
@[simp] theorem State.setStack_reports (d : Desk) (k : Stack) : (s.setStack d k).reports = s.reports := rfl
@[simp] theorem State.setStack_movedTargets (d : Desk) (k : Stack) : (s.setStack d k).movedTargets = s.movedTargets := rfl
@[simp] theorem State.setStack_inputs (d : Desk) (k : Stack) : (s.setStack d k).inputs = s.inputs := rfl
@[simp] theorem State.setStack_targets (d : Desk) (k : Stack) : (s.setStack d k).targets = s.targets := rfl
@[simp] theorem State.setStack_deskLinks (d : Desk) (k : Stack) : (s.setStack d k).deskLinks = s.deskLinks := rfl
@[simp] theorem State.setStack_requests (d : Desk) (k : Stack) : (s.setStack d k).requests = s.requests.set d k := rfl
@[simp] theorem State.setStack_notices (d : Desk) (k : Stack) : (s.setStack d k).notices = s.notices := rfl
@[simp] theorem State.setStack_slots (d : Desk) (k : Stack) : (s.setStack d k).slots = s.slots := rfl
@[simp] theorem State.setStack_command (d : Desk) (k : Stack) : (s.setStack d k).command = s.command := rfl
@[simp] theorem State.setStack_roomLock (d : Desk) (k : Stack) : (s.setStack d k).roomLock = s.roomLock := rfl
@[simp] theorem State.setStack_marks (d : Desk) (k : Stack) : (s.setStack d k).marks = s.marks := rfl
@[simp] theorem State.setStack_settings (d : Desk) (k : Stack) : (s.setStack d k).settings = s.settings := rfl
@[simp] theorem State.setStack_store (d : Desk) (k : Stack) : (s.setStack d k).store = s.store := rfl
@[simp] theorem State.setStack_sourceReceivers (d : Desk) (k : Stack) : (s.setStack d k).sourceReceivers = s.sourceReceivers := rfl
@[simp] theorem State.setStack_deskReceivers (d : Desk) (k : Stack) : (s.setStack d k).deskReceivers = s.deskReceivers := rfl
@[simp] theorem State.setStack_supervisoryReceiver (d : Desk) (k : Stack) : (s.setStack d k).supervisoryReceiver = s.supervisoryReceiver := rfl
@[simp] theorem State.setStack_gapTimer (d : Desk) (k : Stack) : (s.setStack d k).gapTimer = s.gapTimer := rfl
@[simp] theorem State.setStack_sent (d : Desk) (k : Stack) : (s.setStack d k).sent = s.sent := rfl
@[simp] theorem State.setStack_pending (d : Desk) (k : Stack) : (s.setStack d k).pending = s.pending := rfl

/-! ## `setNotices` -/

@[simp] theorem State.setNotices_powered (d : Desk) (l : List Notice) : (s.setNotices d l).powered = s.powered := rfl
@[simp] theorem State.setNotices_now (d : Desk) (l : List Notice) : (s.setNotices d l).now = s.now := rfl
@[simp] theorem State.setNotices_framePhase (d : Desk) (l : List Notice) : (s.setNotices d l).framePhase = s.framePhase := rfl
@[simp] theorem State.setNotices_frameRate (d : Desk) (l : List Notice) : (s.setNotices d l).frameRate = s.frameRate := rfl
@[simp] theorem State.setNotices_conns (d : Desk) (l : List Notice) : (s.setNotices d l).conns = s.conns := rfl
@[simp] theorem State.setNotices_positions (d : Desk) (l : List Notice) : (s.setNotices d l).positions = s.positions := rfl
@[simp] theorem State.setNotices_readmissions (d : Desk) (l : List Notice) : (s.setNotices d l).readmissions = s.readmissions := rfl
@[simp] theorem State.setNotices_sourceLinks (d : Desk) (l : List Notice) : (s.setNotices d l).sourceLinks = s.sourceLinks := rfl
@[simp] theorem State.setNotices_tiers (d : Desk) (l : List Notice) : (s.setNotices d l).tiers = s.tiers := rfl
@[simp] theorem State.setNotices_admissions (d : Desk) (l : List Notice) : (s.setNotices d l).admissions = s.admissions := rfl
@[simp] theorem State.setNotices_nextAdmission (d : Desk) (l : List Notice) : (s.setNotices d l).nextAdmission = s.nextAdmission := rfl
@[simp] theorem State.setNotices_resumption (d : Desk) (l : List Notice) : (s.setNotices d l).resumption = s.resumption := rfl
@[simp] theorem State.setNotices_restoration (d : Desk) (l : List Notice) : (s.setNotices d l).restoration = s.restoration := rfl
@[simp] theorem State.setNotices_expiredUnderLock (d : Desk) (l : List Notice) : (s.setNotices d l).expiredUnderLock = s.expiredUnderLock := rfl
@[simp] theorem State.setNotices_controls (d : Desk) (l : List Notice) : (s.setNotices d l).controls = s.controls := rfl
@[simp] theorem State.setNotices_arrivals (d : Desk) (l : List Notice) : (s.setNotices d l).arrivals = s.arrivals := rfl
@[simp] theorem State.setNotices_reports (d : Desk) (l : List Notice) : (s.setNotices d l).reports = s.reports := rfl
@[simp] theorem State.setNotices_movedTargets (d : Desk) (l : List Notice) : (s.setNotices d l).movedTargets = s.movedTargets := rfl
@[simp] theorem State.setNotices_inputs (d : Desk) (l : List Notice) : (s.setNotices d l).inputs = s.inputs := rfl
@[simp] theorem State.setNotices_targets (d : Desk) (l : List Notice) : (s.setNotices d l).targets = s.targets := rfl
@[simp] theorem State.setNotices_deskLinks (d : Desk) (l : List Notice) : (s.setNotices d l).deskLinks = s.deskLinks := rfl
@[simp] theorem State.setNotices_requests (d : Desk) (l : List Notice) : (s.setNotices d l).requests = s.requests := rfl
@[simp] theorem State.setNotices_notices (d : Desk) (l : List Notice) : (s.setNotices d l).notices = s.notices.set d l := rfl
@[simp] theorem State.setNotices_slots (d : Desk) (l : List Notice) : (s.setNotices d l).slots = s.slots := rfl
@[simp] theorem State.setNotices_command (d : Desk) (l : List Notice) : (s.setNotices d l).command = s.command := rfl
@[simp] theorem State.setNotices_roomLock (d : Desk) (l : List Notice) : (s.setNotices d l).roomLock = s.roomLock := rfl
@[simp] theorem State.setNotices_marks (d : Desk) (l : List Notice) : (s.setNotices d l).marks = s.marks := rfl
@[simp] theorem State.setNotices_settings (d : Desk) (l : List Notice) : (s.setNotices d l).settings = s.settings := rfl
@[simp] theorem State.setNotices_store (d : Desk) (l : List Notice) : (s.setNotices d l).store = s.store := rfl
@[simp] theorem State.setNotices_sourceReceivers (d : Desk) (l : List Notice) : (s.setNotices d l).sourceReceivers = s.sourceReceivers := rfl
@[simp] theorem State.setNotices_deskReceivers (d : Desk) (l : List Notice) : (s.setNotices d l).deskReceivers = s.deskReceivers := rfl
@[simp] theorem State.setNotices_supervisoryReceiver (d : Desk) (l : List Notice) : (s.setNotices d l).supervisoryReceiver = s.supervisoryReceiver := rfl
@[simp] theorem State.setNotices_gapTimer (d : Desk) (l : List Notice) : (s.setNotices d l).gapTimer = s.gapTimer := rfl
@[simp] theorem State.setNotices_sent (d : Desk) (l : List Notice) : (s.setNotices d l).sent = s.sent := rfl
@[simp] theorem State.setNotices_pending (d : Desk) (l : List Notice) : (s.setNotices d l).pending = s.pending := rfl

/-! ## `setSourceLink` -/

@[simp] theorem State.setSourceLink_powered (x : Source) (l : SourceLink) : (s.setSourceLink x l).powered = s.powered := rfl
@[simp] theorem State.setSourceLink_now (x : Source) (l : SourceLink) : (s.setSourceLink x l).now = s.now := rfl
@[simp] theorem State.setSourceLink_framePhase (x : Source) (l : SourceLink) : (s.setSourceLink x l).framePhase = s.framePhase := rfl
@[simp] theorem State.setSourceLink_frameRate (x : Source) (l : SourceLink) : (s.setSourceLink x l).frameRate = s.frameRate := rfl
@[simp] theorem State.setSourceLink_conns (x : Source) (l : SourceLink) : (s.setSourceLink x l).conns = s.conns := rfl
@[simp] theorem State.setSourceLink_positions (x : Source) (l : SourceLink) : (s.setSourceLink x l).positions = s.positions := rfl
@[simp] theorem State.setSourceLink_readmissions (x : Source) (l : SourceLink) : (s.setSourceLink x l).readmissions = s.readmissions := rfl
@[simp] theorem State.setSourceLink_sourceLinks (x : Source) (l : SourceLink) : (s.setSourceLink x l).sourceLinks = s.sourceLinks.set x l := rfl
@[simp] theorem State.setSourceLink_tiers (x : Source) (l : SourceLink) : (s.setSourceLink x l).tiers = s.tiers := rfl
@[simp] theorem State.setSourceLink_admissions (x : Source) (l : SourceLink) : (s.setSourceLink x l).admissions = s.admissions := rfl
@[simp] theorem State.setSourceLink_nextAdmission (x : Source) (l : SourceLink) : (s.setSourceLink x l).nextAdmission = s.nextAdmission := rfl
@[simp] theorem State.setSourceLink_resumption (x : Source) (l : SourceLink) : (s.setSourceLink x l).resumption = s.resumption := rfl
@[simp] theorem State.setSourceLink_restoration (x : Source) (l : SourceLink) : (s.setSourceLink x l).restoration = s.restoration := rfl
@[simp] theorem State.setSourceLink_expiredUnderLock (x : Source) (l : SourceLink) : (s.setSourceLink x l).expiredUnderLock = s.expiredUnderLock := rfl
@[simp] theorem State.setSourceLink_controls (x : Source) (l : SourceLink) : (s.setSourceLink x l).controls = s.controls := rfl
@[simp] theorem State.setSourceLink_arrivals (x : Source) (l : SourceLink) : (s.setSourceLink x l).arrivals = s.arrivals := rfl
@[simp] theorem State.setSourceLink_reports (x : Source) (l : SourceLink) : (s.setSourceLink x l).reports = s.reports := rfl
@[simp] theorem State.setSourceLink_movedTargets (x : Source) (l : SourceLink) : (s.setSourceLink x l).movedTargets = s.movedTargets := rfl
@[simp] theorem State.setSourceLink_inputs (x : Source) (l : SourceLink) : (s.setSourceLink x l).inputs = s.inputs := rfl
@[simp] theorem State.setSourceLink_targets (x : Source) (l : SourceLink) : (s.setSourceLink x l).targets = s.targets := rfl
@[simp] theorem State.setSourceLink_deskLinks (x : Source) (l : SourceLink) : (s.setSourceLink x l).deskLinks = s.deskLinks := rfl
@[simp] theorem State.setSourceLink_requests (x : Source) (l : SourceLink) : (s.setSourceLink x l).requests = s.requests := rfl
@[simp] theorem State.setSourceLink_notices (x : Source) (l : SourceLink) : (s.setSourceLink x l).notices = s.notices := rfl
@[simp] theorem State.setSourceLink_slots (x : Source) (l : SourceLink) : (s.setSourceLink x l).slots = s.slots := rfl
@[simp] theorem State.setSourceLink_command (x : Source) (l : SourceLink) : (s.setSourceLink x l).command = s.command := rfl
@[simp] theorem State.setSourceLink_roomLock (x : Source) (l : SourceLink) : (s.setSourceLink x l).roomLock = s.roomLock := rfl
@[simp] theorem State.setSourceLink_marks (x : Source) (l : SourceLink) : (s.setSourceLink x l).marks = s.marks := rfl
@[simp] theorem State.setSourceLink_settings (x : Source) (l : SourceLink) : (s.setSourceLink x l).settings = s.settings := rfl
@[simp] theorem State.setSourceLink_store (x : Source) (l : SourceLink) : (s.setSourceLink x l).store = s.store := rfl
@[simp] theorem State.setSourceLink_sourceReceivers (x : Source) (l : SourceLink) : (s.setSourceLink x l).sourceReceivers = s.sourceReceivers := rfl
@[simp] theorem State.setSourceLink_deskReceivers (x : Source) (l : SourceLink) : (s.setSourceLink x l).deskReceivers = s.deskReceivers := rfl
@[simp] theorem State.setSourceLink_supervisoryReceiver (x : Source) (l : SourceLink) : (s.setSourceLink x l).supervisoryReceiver = s.supervisoryReceiver := rfl
@[simp] theorem State.setSourceLink_gapTimer (x : Source) (l : SourceLink) : (s.setSourceLink x l).gapTimer = s.gapTimer := rfl
@[simp] theorem State.setSourceLink_sent (x : Source) (l : SourceLink) : (s.setSourceLink x l).sent = s.sent := rfl
@[simp] theorem State.setSourceLink_pending (x : Source) (l : SourceLink) : (s.setSourceLink x l).pending = s.pending := rfl

/-! ## `setPosition` -/

@[simp] theorem State.setPosition_powered (scr : ScreenId) (p : Position) : (s.setPosition scr p).powered = s.powered := rfl
@[simp] theorem State.setPosition_now (scr : ScreenId) (p : Position) : (s.setPosition scr p).now = s.now := rfl
@[simp] theorem State.setPosition_framePhase (scr : ScreenId) (p : Position) : (s.setPosition scr p).framePhase = s.framePhase := rfl
@[simp] theorem State.setPosition_frameRate (scr : ScreenId) (p : Position) : (s.setPosition scr p).frameRate = s.frameRate := rfl
@[simp] theorem State.setPosition_conns (scr : ScreenId) (p : Position) : (s.setPosition scr p).conns = s.conns := rfl
@[simp] theorem State.setPosition_positions (scr : ScreenId) (p : Position) : (s.setPosition scr p).positions = s.positions.set scr.pos p := rfl
@[simp] theorem State.setPosition_readmissions (scr : ScreenId) (p : Position) : (s.setPosition scr p).readmissions = s.readmissions := rfl
@[simp] theorem State.setPosition_sourceLinks (scr : ScreenId) (p : Position) : (s.setPosition scr p).sourceLinks = s.sourceLinks := rfl
@[simp] theorem State.setPosition_tiers (scr : ScreenId) (p : Position) : (s.setPosition scr p).tiers = s.tiers := rfl
@[simp] theorem State.setPosition_admissions (scr : ScreenId) (p : Position) : (s.setPosition scr p).admissions = s.admissions := rfl
@[simp] theorem State.setPosition_nextAdmission (scr : ScreenId) (p : Position) : (s.setPosition scr p).nextAdmission = s.nextAdmission := rfl
@[simp] theorem State.setPosition_resumption (scr : ScreenId) (p : Position) : (s.setPosition scr p).resumption = s.resumption := rfl
@[simp] theorem State.setPosition_restoration (scr : ScreenId) (p : Position) : (s.setPosition scr p).restoration = s.restoration := rfl
@[simp] theorem State.setPosition_expiredUnderLock (scr : ScreenId) (p : Position) : (s.setPosition scr p).expiredUnderLock = s.expiredUnderLock := rfl
@[simp] theorem State.setPosition_controls (scr : ScreenId) (p : Position) : (s.setPosition scr p).controls = s.controls := rfl
@[simp] theorem State.setPosition_arrivals (scr : ScreenId) (p : Position) : (s.setPosition scr p).arrivals = s.arrivals := rfl
@[simp] theorem State.setPosition_reports (scr : ScreenId) (p : Position) : (s.setPosition scr p).reports = s.reports := rfl
@[simp] theorem State.setPosition_movedTargets (scr : ScreenId) (p : Position) : (s.setPosition scr p).movedTargets = s.movedTargets := rfl
@[simp] theorem State.setPosition_inputs (scr : ScreenId) (p : Position) : (s.setPosition scr p).inputs = s.inputs := rfl
@[simp] theorem State.setPosition_targets (scr : ScreenId) (p : Position) : (s.setPosition scr p).targets = s.targets := rfl
@[simp] theorem State.setPosition_deskLinks (scr : ScreenId) (p : Position) : (s.setPosition scr p).deskLinks = s.deskLinks := rfl
@[simp] theorem State.setPosition_requests (scr : ScreenId) (p : Position) : (s.setPosition scr p).requests = s.requests := rfl
@[simp] theorem State.setPosition_notices (scr : ScreenId) (p : Position) : (s.setPosition scr p).notices = s.notices := rfl
@[simp] theorem State.setPosition_slots (scr : ScreenId) (p : Position) : (s.setPosition scr p).slots = s.slots := rfl
@[simp] theorem State.setPosition_command (scr : ScreenId) (p : Position) : (s.setPosition scr p).command = s.command := rfl
@[simp] theorem State.setPosition_roomLock (scr : ScreenId) (p : Position) : (s.setPosition scr p).roomLock = s.roomLock := rfl
@[simp] theorem State.setPosition_marks (scr : ScreenId) (p : Position) : (s.setPosition scr p).marks = s.marks := rfl
@[simp] theorem State.setPosition_settings (scr : ScreenId) (p : Position) : (s.setPosition scr p).settings = s.settings := rfl
@[simp] theorem State.setPosition_store (scr : ScreenId) (p : Position) : (s.setPosition scr p).store = s.store := rfl
@[simp] theorem State.setPosition_sourceReceivers (scr : ScreenId) (p : Position) : (s.setPosition scr p).sourceReceivers = s.sourceReceivers := rfl
@[simp] theorem State.setPosition_deskReceivers (scr : ScreenId) (p : Position) : (s.setPosition scr p).deskReceivers = s.deskReceivers := rfl
@[simp] theorem State.setPosition_supervisoryReceiver (scr : ScreenId) (p : Position) : (s.setPosition scr p).supervisoryReceiver = s.supervisoryReceiver := rfl
@[simp] theorem State.setPosition_gapTimer (scr : ScreenId) (p : Position) : (s.setPosition scr p).gapTimer = s.gapTimer := rfl
@[simp] theorem State.setPosition_sent (scr : ScreenId) (p : Position) : (s.setPosition scr p).sent = s.sent := rfl
@[simp] theorem State.setPosition_pending (scr : ScreenId) (p : Position) : (s.setPosition scr p).pending = s.pending := rfl

/-! ## `setInput` -/

@[simp] theorem State.setInput_powered (x : Source) (p : InputPath) : (s.setInput x p).powered = s.powered := rfl
@[simp] theorem State.setInput_now (x : Source) (p : InputPath) : (s.setInput x p).now = s.now := rfl
@[simp] theorem State.setInput_framePhase (x : Source) (p : InputPath) : (s.setInput x p).framePhase = s.framePhase := rfl
@[simp] theorem State.setInput_frameRate (x : Source) (p : InputPath) : (s.setInput x p).frameRate = s.frameRate := rfl
@[simp] theorem State.setInput_conns (x : Source) (p : InputPath) : (s.setInput x p).conns = s.conns := rfl
@[simp] theorem State.setInput_positions (x : Source) (p : InputPath) : (s.setInput x p).positions = s.positions := rfl
@[simp] theorem State.setInput_readmissions (x : Source) (p : InputPath) : (s.setInput x p).readmissions = s.readmissions := rfl
@[simp] theorem State.setInput_sourceLinks (x : Source) (p : InputPath) : (s.setInput x p).sourceLinks = s.sourceLinks := rfl
@[simp] theorem State.setInput_tiers (x : Source) (p : InputPath) : (s.setInput x p).tiers = s.tiers := rfl
@[simp] theorem State.setInput_admissions (x : Source) (p : InputPath) : (s.setInput x p).admissions = s.admissions := rfl
@[simp] theorem State.setInput_nextAdmission (x : Source) (p : InputPath) : (s.setInput x p).nextAdmission = s.nextAdmission := rfl
@[simp] theorem State.setInput_resumption (x : Source) (p : InputPath) : (s.setInput x p).resumption = s.resumption := rfl
@[simp] theorem State.setInput_restoration (x : Source) (p : InputPath) : (s.setInput x p).restoration = s.restoration := rfl
@[simp] theorem State.setInput_expiredUnderLock (x : Source) (p : InputPath) : (s.setInput x p).expiredUnderLock = s.expiredUnderLock := rfl
@[simp] theorem State.setInput_controls (x : Source) (p : InputPath) : (s.setInput x p).controls = s.controls := rfl
@[simp] theorem State.setInput_arrivals (x : Source) (p : InputPath) : (s.setInput x p).arrivals = s.arrivals := rfl
@[simp] theorem State.setInput_reports (x : Source) (p : InputPath) : (s.setInput x p).reports = s.reports := rfl
@[simp] theorem State.setInput_movedTargets (x : Source) (p : InputPath) : (s.setInput x p).movedTargets = s.movedTargets := rfl
@[simp] theorem State.setInput_inputs (x : Source) (p : InputPath) : (s.setInput x p).inputs = s.inputs.set x p := rfl
@[simp] theorem State.setInput_targets (x : Source) (p : InputPath) : (s.setInput x p).targets = s.targets := rfl
@[simp] theorem State.setInput_deskLinks (x : Source) (p : InputPath) : (s.setInput x p).deskLinks = s.deskLinks := rfl
@[simp] theorem State.setInput_requests (x : Source) (p : InputPath) : (s.setInput x p).requests = s.requests := rfl
@[simp] theorem State.setInput_notices (x : Source) (p : InputPath) : (s.setInput x p).notices = s.notices := rfl
@[simp] theorem State.setInput_slots (x : Source) (p : InputPath) : (s.setInput x p).slots = s.slots := rfl
@[simp] theorem State.setInput_command (x : Source) (p : InputPath) : (s.setInput x p).command = s.command := rfl
@[simp] theorem State.setInput_roomLock (x : Source) (p : InputPath) : (s.setInput x p).roomLock = s.roomLock := rfl
@[simp] theorem State.setInput_marks (x : Source) (p : InputPath) : (s.setInput x p).marks = s.marks := rfl
@[simp] theorem State.setInput_settings (x : Source) (p : InputPath) : (s.setInput x p).settings = s.settings := rfl
@[simp] theorem State.setInput_store (x : Source) (p : InputPath) : (s.setInput x p).store = s.store := rfl
@[simp] theorem State.setInput_sourceReceivers (x : Source) (p : InputPath) : (s.setInput x p).sourceReceivers = s.sourceReceivers := rfl
@[simp] theorem State.setInput_deskReceivers (x : Source) (p : InputPath) : (s.setInput x p).deskReceivers = s.deskReceivers := rfl
@[simp] theorem State.setInput_supervisoryReceiver (x : Source) (p : InputPath) : (s.setInput x p).supervisoryReceiver = s.supervisoryReceiver := rfl
@[simp] theorem State.setInput_gapTimer (x : Source) (p : InputPath) : (s.setInput x p).gapTimer = s.gapTimer := rfl
@[simp] theorem State.setInput_sent (x : Source) (p : InputPath) : (s.setInput x p).sent = s.sent := rfl
@[simp] theorem State.setInput_pending (x : Source) (p : InputPath) : (s.setInput x p).pending = s.pending := rfl

/-! ## `setTarget` -/

@[simp] theorem State.setTarget_powered (d : Desk) (t : Option Source) : (s.setTarget d t).powered = s.powered := rfl
@[simp] theorem State.setTarget_now (d : Desk) (t : Option Source) : (s.setTarget d t).now = s.now := rfl
@[simp] theorem State.setTarget_framePhase (d : Desk) (t : Option Source) : (s.setTarget d t).framePhase = s.framePhase := rfl
@[simp] theorem State.setTarget_frameRate (d : Desk) (t : Option Source) : (s.setTarget d t).frameRate = s.frameRate := rfl
@[simp] theorem State.setTarget_conns (d : Desk) (t : Option Source) : (s.setTarget d t).conns = s.conns := rfl
@[simp] theorem State.setTarget_positions (d : Desk) (t : Option Source) : (s.setTarget d t).positions = s.positions := rfl
@[simp] theorem State.setTarget_readmissions (d : Desk) (t : Option Source) : (s.setTarget d t).readmissions = s.readmissions := rfl
@[simp] theorem State.setTarget_sourceLinks (d : Desk) (t : Option Source) : (s.setTarget d t).sourceLinks = s.sourceLinks := rfl
@[simp] theorem State.setTarget_tiers (d : Desk) (t : Option Source) : (s.setTarget d t).tiers = s.tiers := rfl
@[simp] theorem State.setTarget_admissions (d : Desk) (t : Option Source) : (s.setTarget d t).admissions = s.admissions := rfl
@[simp] theorem State.setTarget_nextAdmission (d : Desk) (t : Option Source) : (s.setTarget d t).nextAdmission = s.nextAdmission := rfl
@[simp] theorem State.setTarget_resumption (d : Desk) (t : Option Source) : (s.setTarget d t).resumption = s.resumption := rfl
@[simp] theorem State.setTarget_restoration (d : Desk) (t : Option Source) : (s.setTarget d t).restoration = s.restoration := rfl
@[simp] theorem State.setTarget_expiredUnderLock (d : Desk) (t : Option Source) : (s.setTarget d t).expiredUnderLock = s.expiredUnderLock := rfl
@[simp] theorem State.setTarget_controls (d : Desk) (t : Option Source) : (s.setTarget d t).controls = s.controls := rfl
@[simp] theorem State.setTarget_arrivals (d : Desk) (t : Option Source) : (s.setTarget d t).arrivals = s.arrivals := rfl
@[simp] theorem State.setTarget_reports (d : Desk) (t : Option Source) : (s.setTarget d t).reports = s.reports := rfl
@[simp] theorem State.setTarget_movedTargets (d : Desk) (t : Option Source) : (s.setTarget d t).movedTargets = s.movedTargets := rfl
@[simp] theorem State.setTarget_inputs (d : Desk) (t : Option Source) : (s.setTarget d t).inputs = s.inputs := rfl
@[simp] theorem State.setTarget_targets (d : Desk) (t : Option Source) : (s.setTarget d t).targets = s.targets.set d t := rfl
@[simp] theorem State.setTarget_deskLinks (d : Desk) (t : Option Source) : (s.setTarget d t).deskLinks = s.deskLinks := rfl
@[simp] theorem State.setTarget_requests (d : Desk) (t : Option Source) : (s.setTarget d t).requests = s.requests := rfl
@[simp] theorem State.setTarget_notices (d : Desk) (t : Option Source) : (s.setTarget d t).notices = s.notices := rfl
@[simp] theorem State.setTarget_slots (d : Desk) (t : Option Source) : (s.setTarget d t).slots = s.slots := rfl
@[simp] theorem State.setTarget_command (d : Desk) (t : Option Source) : (s.setTarget d t).command = s.command := rfl
@[simp] theorem State.setTarget_roomLock (d : Desk) (t : Option Source) : (s.setTarget d t).roomLock = s.roomLock := rfl
@[simp] theorem State.setTarget_marks (d : Desk) (t : Option Source) : (s.setTarget d t).marks = s.marks := rfl
@[simp] theorem State.setTarget_settings (d : Desk) (t : Option Source) : (s.setTarget d t).settings = s.settings := rfl
@[simp] theorem State.setTarget_store (d : Desk) (t : Option Source) : (s.setTarget d t).store = s.store := rfl
@[simp] theorem State.setTarget_sourceReceivers (d : Desk) (t : Option Source) : (s.setTarget d t).sourceReceivers = s.sourceReceivers := rfl
@[simp] theorem State.setTarget_deskReceivers (d : Desk) (t : Option Source) : (s.setTarget d t).deskReceivers = s.deskReceivers := rfl
@[simp] theorem State.setTarget_supervisoryReceiver (d : Desk) (t : Option Source) : (s.setTarget d t).supervisoryReceiver = s.supervisoryReceiver := rfl
@[simp] theorem State.setTarget_gapTimer (d : Desk) (t : Option Source) : (s.setTarget d t).gapTimer = s.gapTimer := rfl
@[simp] theorem State.setTarget_sent (d : Desk) (t : Option Source) : (s.setTarget d t).sent = s.sent := rfl
@[simp] theorem State.setTarget_pending (d : Desk) (t : Option Source) : (s.setTarget d t).pending = s.pending := rfl

/-! ## `reach` -/

@[simp] theorem State.reach_powered (due : Time) : (s.reach due).powered = s.powered := rfl
@[simp] theorem State.reach_now (due : Time) : (s.reach due).now = max s.now due := rfl
@[simp] theorem State.reach_framePhase (due : Time) : (s.reach due).framePhase = s.framePhase := rfl
@[simp] theorem State.reach_frameRate (due : Time) : (s.reach due).frameRate = s.frameRate := rfl
@[simp] theorem State.reach_conns (due : Time) : (s.reach due).conns = s.conns := rfl
@[simp] theorem State.reach_positions (due : Time) : (s.reach due).positions = s.positions := rfl
@[simp] theorem State.reach_readmissions (due : Time) : (s.reach due).readmissions = s.readmissions := rfl
@[simp] theorem State.reach_sourceLinks (due : Time) : (s.reach due).sourceLinks = s.sourceLinks := rfl
@[simp] theorem State.reach_tiers (due : Time) : (s.reach due).tiers = s.tiers := rfl
@[simp] theorem State.reach_admissions (due : Time) : (s.reach due).admissions = s.admissions := rfl
@[simp] theorem State.reach_nextAdmission (due : Time) : (s.reach due).nextAdmission = s.nextAdmission := rfl
@[simp] theorem State.reach_resumption (due : Time) : (s.reach due).resumption = s.resumption := rfl
@[simp] theorem State.reach_restoration (due : Time) : (s.reach due).restoration = s.restoration := rfl
@[simp] theorem State.reach_expiredUnderLock (due : Time) : (s.reach due).expiredUnderLock = s.expiredUnderLock := rfl
@[simp] theorem State.reach_controls (due : Time) : (s.reach due).controls = s.controls := rfl
@[simp] theorem State.reach_arrivals (due : Time) : (s.reach due).arrivals = s.arrivals := rfl
@[simp] theorem State.reach_reports (due : Time) : (s.reach due).reports = s.reports := rfl
@[simp] theorem State.reach_movedTargets (due : Time) : (s.reach due).movedTargets = s.movedTargets := rfl
@[simp] theorem State.reach_inputs (due : Time) : (s.reach due).inputs = s.inputs := rfl
@[simp] theorem State.reach_targets (due : Time) : (s.reach due).targets = s.targets := rfl
@[simp] theorem State.reach_deskLinks (due : Time) : (s.reach due).deskLinks = s.deskLinks := rfl
@[simp] theorem State.reach_requests (due : Time) : (s.reach due).requests = s.requests := rfl
@[simp] theorem State.reach_notices (due : Time) : (s.reach due).notices = s.notices := rfl
@[simp] theorem State.reach_slots (due : Time) : (s.reach due).slots = s.slots := rfl
@[simp] theorem State.reach_command (due : Time) : (s.reach due).command = s.command := rfl
@[simp] theorem State.reach_roomLock (due : Time) : (s.reach due).roomLock = s.roomLock := rfl
@[simp] theorem State.reach_marks (due : Time) : (s.reach due).marks = s.marks := rfl
@[simp] theorem State.reach_settings (due : Time) : (s.reach due).settings = s.settings := rfl
@[simp] theorem State.reach_store (due : Time) : (s.reach due).store = s.store := rfl
@[simp] theorem State.reach_sourceReceivers (due : Time) : (s.reach due).sourceReceivers = s.sourceReceivers := rfl
@[simp] theorem State.reach_deskReceivers (due : Time) : (s.reach due).deskReceivers = s.deskReceivers := rfl
@[simp] theorem State.reach_supervisoryReceiver (due : Time) : (s.reach due).supervisoryReceiver = s.supervisoryReceiver := rfl
@[simp] theorem State.reach_gapTimer (due : Time) : (s.reach due).gapTimer = s.gapTimer := rfl
@[simp] theorem State.reach_sent (due : Time) : (s.reach due).sent = s.sent := rfl
@[simp] theorem State.reach_pending (due : Time) : (s.reach due).pending = s.pending := rfl

end Sys2Proof.Machine
end

