-- ==== Sys2Proof/Laws/Access.lean ====
section
/-!
SUPPORT. Reading a record after it, or another, has been written: what was written, or what stood before.
-/

namespace Sys2Proof.Machine

theorem get_set {α : Type} {n : Nat} (v : Vector α n) (i j : Fin n) (a : α) :
    (v.set i a)[j] = if i = j then a else v[j] := by
  simp only [Fin.getElem_fin, Vector.getElem_set, Fin.ext_iff]

variable (s : State)

@[simp] theorem State.input_setInput (x y : Source) (p : InputPath) :
    (s.setInput x p).input y = if x = y then p else s.input y := get_set ..

@[simp] theorem State.deskLink_setDeskLink (d e : Desk) (l : DeskLink) :
    (s.setDeskLink d l).deskLink e = if d = e then l else s.deskLink e := get_set ..

@[simp] theorem State.sourceLink_setSourceLink (x y : Source) (l : SourceLink) :
    (s.setSourceLink x l).sourceLink y = if x = y then l else s.sourceLink y := get_set ..

@[simp] theorem State.stack_setStack (d e : Desk) (k : Stack) :
    (s.setStack d k).stack e = if d = e then k else s.stack e := get_set ..

@[simp] theorem State.noticeList_setNotices (d e : Desk) (l : List Notice) :
    (s.setNotices d l).noticeList e = if d = e then l else s.noticeList e := get_set ..

@[simp] theorem State.target_setTarget (d e : Desk) (t : Option Source) :
    (s.setTarget d t).target e = if d = e then t else s.target e := get_set ..

theorem ScreenId.pos_eq_iff (a b : ScreenId) : a.pos = b.pos ↔ a = b := by
  obtain ⟨d, k⟩ := a
  obtain ⟨e, m⟩ := b
  simp only [Sys2Proof.ScreenId.pos, ScreenId.mk.injEq, Fin.ext_iff]
  omega

@[simp] theorem State.position_setPosition (a b : ScreenId) (p : Position) :
    (s.setPosition a p).position b = if a = b then p else s.position b := by
  unfold State.position State.setPosition
  simp only [get_set, ScreenId.pos_eq_iff]

@[simp] theorem State.tier_setTier (h k : HeadId) (r : TierRecord) :
    (s.setTier h r).tier k = if h = k then r else s.tier k := by
  obtain ⟨x, i⟩ := h
  obtain ⟨y, j⟩ := k
  have : (s.setTier ⟨x, i⟩ r).tiers = s.tiers.set x ((s.tiers[x]).set i r) := by
    unfold State.setTier; simp only []; split <;> rfl
  simp only [State.tier, this, get_set, HeadId.mk.injEq]
  by_cases hx : x = y
  · subst hx; simp only [↓reduceIte, get_set, true_and]
  · simp [hx]

@[simp] theorem State.controlRecord_setControl (x y : Source) (c : Control) :
    (s.setControl x c).controlRecord y
      = if x = y then { s.controlRecord x with control := c } else s.controlRecord y := by
  have h : ∀ (ds : List Desk) (t : State), (t.markDesks ds).controls = t.controls := by
    intro ds
    induction ds with
    | nil => intro t; rfl
    | cons d ds ih => intro t; exact ih (t.markDesk d)
  unfold State.setControl
  simp only [State.controlRecord, h, State.markSource_controls]
  exact get_set ..

@[simp] theorem State.controlRecord_setClaims (x y : Source) (q : List Claim) :
    (s.setClaims x q).controlRecord y
      = if x = y then { s.controlRecord x with claims := q } else s.controlRecord y := by
  have h : ∀ (ds : List Desk) (t : State), (t.markDesks ds).controls = t.controls := by
    intro ds
    induction ds with
    | nil => intro t; rfl
    | cons d ds ih => intro t; exact ih (t.markDesk d)
  unfold State.setClaims
  simp only []
  split
  · exact get_set ..
  · simp only [State.controlRecord, h, State.markSource_controls]
    exact get_set ..

@[simp] theorem State.slot_setSlot (i j : SlotIx) (k : Slot) :
    (s.setSlot i k).slot j = if i = j then k else s.slot j := by
  have : (s.setSlot i k).slots = s.slots.set i k := by
    unfold State.setSlot; simp only []; split <;> rfl
  simp only [State.slot, this]
  exact get_set ..

end Sys2Proof.Machine
end

