-- ==== Sys2Proof/Laws/Inner.lean ====
section
/-!
SUPPORT. What every operation of the blocks on one another keeps: the lines, the links, the settings and the clock stand;
frames are only added to those sent; marks are only set; the capacities hold.  One lemma per operation says that it keeps this.
-/

namespace Sys2Proof.Machine

/-- The part of the state that no work of a taking changes: it belongs to the lines, the links, the settings and the clock. -/
structure Fixed where
  powered : Bool
  now : Time
  framePhase : Nat
  frameRate : Nat
  roomLock : Option RoomLock
  settings : Settings
  sourceLinks : Vector SourceLink 24
  deskLinks : Vector DeskLink 16
  sourceReceivers : Vector Receiver 24
  deskReceivers : Vector Receiver 16
  supervisoryReceiver : Receiver
  gapTimer : Option Time
  pending : List Instr
  region : Settings
  regionCheck : Option Nat
  settingsGood : Bool
  op : Option StoreOp
  leds : Source → Option (BitVec 5)
  raws : HeadId → Option Nat

/-- The fixed part of a state. -/
def State.fixed (s : State) : Fixed where
  powered := s.powered
  now := s.now
  framePhase := s.framePhase
  frameRate := s.frameRate
  roomLock := s.roomLock
  settings := s.settings
  sourceLinks := s.sourceLinks
  deskLinks := s.deskLinks
  sourceReceivers := s.sourceReceivers
  deskReceivers := s.deskReceivers
  supervisoryReceiver := s.supervisoryReceiver
  gapTimer := s.gapTimer
  pending := s.pending
  region := s.store.region
  regionCheck := s.store.regionCheck
  settingsGood := s.store.settingsGood
  op := s.store.op
  leds := fun x => (s.input x).led
  raws := fun h => (s.tier h).raw

theorem Marks.Within.refl (a : Marks) : a.Within a :=
  ⟨fun _ h => h, fun _ h => h, fun _ h => h, id, id, id⟩

theorem Marks.Within.trans {a b c : Marks} (h : a.Within b) (k : b.Within c) : a.Within c :=
  ⟨fun d q => k.desks d (h.desks d q), fun d q => k.sources d (h.sources d q), fun d q => k.slots d (h.slots d q),
    k.room ∘ h.room, k.store ∘ h.store, k.settingsFault ∘ h.settingsFault⟩

/-- `t` has come from `s` by work of the blocks. -/
structure Inner (s t : State) : Prop where
  fixed : t.fixed = s.fixed
  sent : s.sent <+: t.sent
  marks : s.marks.Within t.marks
  bounded : s.Bounded → t.Bounded

theorem Inner.refl (s : State) : Inner s s := ⟨rfl, List.prefix_rfl, .refl _, id⟩

theorem Inner.trans {s t u : State} (h : Inner s t) (k : Inner t u) : Inner s u :=
  ⟨k.fixed.trans h.fixed, h.sent.trans k.sent, h.marks.trans k.marks, k.bounded ∘ h.bounded⟩

variable {s t u : State}

/-! ## Plain updates -/

theorem State.Bounded.congr (h : s.Bounded) (hi : t.inputs = s.inputs) (hc : t.controls = s.controls)
    (hn : t.notices = s.notices) (hk : t.conns = s.conns) : t.Bounded where
  inputs x := by simpa only [State.input, hi] using h.inputs x
  claims x := by simpa only [State.claims, State.controlRecord, hc] using h.claims x
  notices d := by simpa only [State.noticeList, hn] using h.notices d
  handles := by simpa only [hk] using h.handles

/-- An update of fields that nothing is said of. -/
theorem Inner.same (i : Inner s t) (hf : u.fixed = t.fixed) (hs : u.sent = t.sent) (hm : u.marks = t.marks)
    (hi : u.inputs = t.inputs) (hc : u.controls = t.controls) (hn : u.notices = t.notices) (hk : u.conns = t.conns) :
    Inner s u :=
  ⟨hf.trans i.fixed, hs ▸ i.sent, hm ▸ i.marks, fun b => (i.bounded b).congr hi hc hn hk⟩

/-- A fold of operations that keep it. -/
theorem Inner.foldl {α : Type} {f : State → α → State} (h : ∀ t a, Inner s t → Inner s (f t a)) (l : List α)
    (i : Inner s t) : Inner s (l.foldl f t) := by
  induction l generalizing t with
  | nil => exact i
  | cons a l ih => exact ih (h t a i)

theorem Marks.within_desk (m : Marks) (d : Desk) : m.Within { m with desks := m.desks.set d true } := by
  refine ⟨fun e h => ?_, fun _ h => h, fun _ h => h, id, id, id⟩
  simp only [get_set]; split
  · rfl
  · exact h

theorem Marks.within_source (m : Marks) (x : Source) : m.Within { m with sources := m.sources.set x true } := by
  refine ⟨fun _ h => h, fun e h => ?_, fun _ h => h, id, id, id⟩
  simp only [get_set]; split
  · rfl
  · exact h

theorem Marks.within_slot (m : Marks) (i : SlotIx) : m.Within { m with slots := m.slots.set i true } := by
  refine ⟨fun _ h => h, fun _ h => h, fun e h => ?_, id, id, id⟩
  simp only [get_set]; split
  · rfl
  · exact h

theorem Inner.markDesk (i : Inner s t) (d : Desk) : Inner s (t.markDesk d) :=
  ⟨i.fixed, i.sent, i.marks.trans (Marks.within_desk ..), fun b => (i.bounded b).congr rfl rfl rfl rfl⟩

theorem Inner.markSource (i : Inner s t) (x : Source) : Inner s (t.markSource x) :=
  ⟨i.fixed, i.sent, i.marks.trans (Marks.within_source ..), fun b => (i.bounded b).congr rfl rfl rfl rfl⟩

theorem Inner.markSlot (i : Inner s t) (k : SlotIx) : Inner s (t.markSlot k) :=
  ⟨i.fixed, i.sent, i.marks.trans (Marks.within_slot ..), fun b => (i.bounded b).congr rfl rfl rfl rfl⟩

theorem Inner.markStore (i : Inner s t) : Inner s t.markStore :=
  ⟨i.fixed, i.sent, i.marks.trans ⟨fun _ h => h, fun _ h => h, fun _ h => h, id, fun _ => rfl, id⟩,
    fun b => (i.bounded b).congr rfl rfl rfl rfl⟩

theorem Inner.markDesks (i : Inner s t) (l : List Desk) : Inner s (t.markDesks l) :=
  i.foldl (fun _ d i => i.markDesk d) l

theorem Inner.markSources (i : Inner s t) (l : List Source) : Inner s (t.markSources l) :=
  i.foldl (fun _ x i => i.markSource x) l

theorem Inner.emit (i : Inner s t) (x : Sent) : Inner s (t.emit x) :=
  ⟨i.fixed, i.sent.trans (List.prefix_append _ _), i.marks, fun b => (i.bounded b).congr rfl rfl rfl rfl⟩

theorem Inner.sendDesk (i : Inner s t) (d : Desk) (x : Sent) : Inner s (t.sendDesk d x) := by
  unfold State.sendDesk; split
  · exact i.emit x
  · exact i

theorem Inner.respond (i : Inner s t) (d : Desk) (n : Byte) (r : Response) : Inner s (t.respond d n r) :=
  i.sendDesk d _

theorem Inner.reply (i : Inner s t) (k : Byte) (o : ResponseOutcome) (d : Detail) (data : List Byte) :
    Inner s (t.reply k o d data) := i.emit _

theorem Inner.setCommand (i : Inner s t) (c : Option Command) : Inner s { t with command := c } :=
  i.same rfl rfl rfl rfl rfl rfl rfl

theorem Inner.answerCommand (i : Inner s t) (o : ResponseOutcome) (d : Detail) (data : List Byte) :
    Inner s (t.answerCommand o d data) := by
  unfold State.answerCommand; split
  · exact i
  · exact (i.reply _ o d data).setCommand none

theorem Inner.setStack (i : Inner s t) (d : Desk) (k : Stack) : Inner s (t.setStack d k) :=
  i.same rfl rfl rfl rfl rfl rfl rfl

theorem Inner.setPhase (i : Inner s t) (d : Desk) (p : Phase) : Inner s (t.setPhase d p) := by
  unfold State.setPhase; split
  · exact i
  · exact i.setStack ..

theorem Inner.answerDesk (i : Inner s t) (d : Desk) (o : ResponseOutcome) (e : Detail) (data : List Byte) :
    Inner s (t.answerDesk d o e data) := by
  unfold State.answerDesk; split
  · exact i
  · exact (i.respond ..).setStack ..

theorem Inner.setPosition (i : Inner s t) (scr : ScreenId) (p : Position) : Inner s (t.setPosition scr p) :=
  i.same rfl rfl rfl rfl rfl rfl rfl

theorem Inner.stopLockTimer (i : Inner s t) (scr : ScreenId) : Inner s (t.stopLockTimer scr) := i.setPosition ..

theorem Inner.startLockTimer (i : Inner s t) (scr : ScreenId) : Inner s (t.startLockTimer scr) := i.setPosition ..

theorem Inner.setTarget (i : Inner s t) (d : Desk) (x : Option Source) : Inner s (t.setTarget d x) :=
  i.same rfl rfl rfl rfl rfl rfl rfl

theorem Inner.setAdmissions (i : Inner s t) (l : List Admission) : Inner s { t with admissions := l } :=
  i.same rfl rfl rfl rfl rfl rfl rfl

theorem Inner.setReadmissions (i : Inner s t) (l : List Readmit) : Inner s { t with readmissions := l } :=
  i.same rfl rfl rfl rfl rfl rfl rfl

theorem Inner.setResumption (i : Inner s t) (r : Resumption) : Inner s { t with resumption := r } :=
  i.same rfl rfl rfl rfl rfl rfl rfl

theorem Inner.setRestoration (i : Inner s t) (r : Restoration) : Inner s { t with restoration := r } :=
  i.same rfl rfl rfl rfl rfl rfl rfl

theorem Inner.setSlots (i : Inner s t) (v : Vector Slot 4) : Inner s { t with slots := v } :=
  i.same rfl rfl rfl rfl rfl rfl rfl

theorem Inner.setReports (i : Inner s t) (l : List DriverReport) : Inner s { t with reports := l } :=
  i.same rfl rfl rfl rfl rfl rfl rfl

theorem Inner.setMovedTargets (i : Inner s t) (l : List (Desk × Option Source)) : Inner s { t with movedTargets := l } :=
  i.same rfl rfl rfl rfl rfl rfl rfl

theorem Inner.setWalk (i : Inner s t) (r : Restoration) (b : Bool) :
    Inner s { t with restoration := r, expiredUnderLock := b } :=
  i.same rfl rfl rfl rfl rfl rfl rfl

theorem Inner.setPresets (i : Inner s t) (v : Vector Preset 32) : Inner s { t with store := { t.store with presets := v } } :=
  i.same rfl rfl rfl rfl rfl rfl rfl

theorem Inner.setSlot (i : Inner s t) (j : SlotIx) (k : Slot) : Inner s (t.setSlot j k) := by
  unfold State.setSlot; dsimp only; split
  · exact (i.setSlots _).markSlot j
  · exact i.setSlots _

/-! ## Bounded lists -/

theorem Inner.setNotices (i : Inner s t) (d : Desk) (l : List Notice)
    (h : (t.noticeList d).length ≤ Config.noticeCapacity → l.length ≤ Config.noticeCapacity) :
    Inner s (t.setNotices d l) := by
  refine ⟨i.fixed, i.sent, i.marks, fun b => ?_⟩
  have b := i.bounded b
  refine ⟨b.inputs, b.claims, fun e => ?_, b.handles⟩
  rw [State.noticeList_setNotices]
  split
  · next h' => subst h'; exact h (b.notices _)
  · exact b.notices e

/-- The law of an input queue speaks of the queue and the deferred key slot alone. -/
theorem InputPath.Bounded.same {p q : InputPath} (h : p.Bounded) (hq : q.queue = p.queue) (hd : q.deferred = p.deferred) :
    q.Bounded where
  queue := hq ▸ h.queue
  movements := hq ▸ h.movements
  deferred := hq ▸ hd ▸ h.deferred

theorem Inner.setInput (i : Inner s t) (x : Source) (p : InputPath) (hl : p.led = (t.input x).led)
    (h : (t.input x).Bounded → p.Bounded) : Inner s (t.setInput x p) := by
  refine ⟨?_, i.sent, i.marks, fun b => ?_⟩
  · rw [← i.fixed]
    have e : (fun y => ((t.setInput x p).input y).led) = fun y => (t.input y).led := by
      funext y
      rw [State.input_setInput]
      split
      · next h' => subst h'; exact hl
      · rfl
    simp only [State.fixed, e]; rfl
  · have b := i.bounded b
    refine ⟨fun y => ?_, b.claims, b.notices, b.handles⟩
    rw [State.input_setInput]
    split
    · next h' => subst h'; exact h (b.inputs _)
    · exact b.inputs y

theorem Inner.setTier (i : Inner s t) (h : HeadId) (r : TierRecord) (hr : r.raw = (t.tier h).raw) :
    Inner s (t.setTier h r) := by
  have e : (fun k => ((t.setTier h r).tier k).raw) = fun k => (t.tier k).raw := by
    funext k
    rw [State.tier_setTier]
    split
    · next h' => subst h'; exact hr
    · rfl
  have tt : (t.setTier h r).tiers = t.tiers.set h.source ((t.tiers[h.source]).set h.head r) := by
    unfold State.setTier; dsimp only; split <;> rfl
  have k : Inner s { t with tiers := (t.setTier h r).tiers } :=
    ⟨(congrArg (fun r => ({ t.fixed with raws := r } : Fixed)) e).trans i.fixed, i.sent, i.marks,
      fun b => (i.bounded b).congr rfl rfl rfl rfl⟩
  rw [tt] at k
  unfold State.setTier; dsimp only; split
  · exact k.markSource _
  · exact k

theorem Inner.setControls (i : Inner s t) (x : Source) (r : ControlRecord)
    (h : (t.claims x).length ≤ Config.claimQueueCapacity → r.claims.length ≤ Config.claimQueueCapacity) :
    Inner s { t with controls := t.controls.set x r } := by
  refine ⟨i.fixed, i.sent, i.marks, fun b => ?_⟩
  have b := i.bounded b
  refine ⟨b.inputs, fun y => ?_, b.notices, b.handles⟩
  simp only [State.claims, State.controlRecord, get_set]
  split
  · next h' => subst h'; exact h (b.claims _)
  · exact b.claims y

theorem Inner.setControl (i : Inner s t) (x : Source) (c : Control) : Inner s (t.setControl x c) := by
  unfold State.setControl
  exact (((i.setControls x { t.controlRecord x with control := c } id).setReports _).markSource x).markDesks _

theorem Inner.setClaims (i : Inner s t) (x : Source) (q : List Claim)
    (h : (t.claims x).length ≤ Config.claimQueueCapacity → q.length ≤ Config.claimQueueCapacity) :
    Inner s (t.setClaims x q) := by
  unfold State.setClaims; dsimp only; split
  · exact i.setControls x _ h
  · exact ((i.setControls x { t.controlRecord x with claims := q } h).markSource x).markDesks _

theorem Inner.setLastInput (i : Inner s t) (x : Source) : Inner s (t.setLastInput x) := by
  unfold State.setLastInput; split
  · exact i.setControls x { t.controlRecord x with control := _ } id
  · exact i

/-! ## The Connection Table -/

theorem mem_putConn {c d : Conn} {l : List Conn} (h : d ∈ putConn c l) : d = c ∨ d ∈ l := by
  induction l with
  | nil => simpa [putConn] using h
  | cons x l ih =>
    unfold putConn at h
    split at h
    · simpa using h
    · split at h
      · rcases List.mem_cons.1 h with h | h
        · exact .inl h
        · exact .inr (List.mem_cons_of_mem _ h)
      · rcases List.mem_cons.1 h with h | h
        · exact .inr (h ▸ List.mem_cons_self)
        · exact (ih h).imp id (List.mem_cons_of_mem _)

/-- Putting a record at its place keeps the ascending order of handles. -/
theorem pairwise_putConn {c : Conn} {l : List Conn} (h : l.Pairwise fun a b => a.handle < b.handle) :
    (putConn c l).Pairwise fun a b => a.handle < b.handle := by
  induction l with
  | nil => simp [putConn]
  | cons x l ih =>
    have hx := List.pairwise_cons.1 h
    unfold putConn
    split
    · next lt => exact List.pairwise_cons.2 ⟨fun b hb => by
        rcases List.mem_cons.1 hb with rfl | hb
        · exact lt
        · exact lt_trans lt (hx.1 b hb), h⟩
    · split
      · next eq => exact List.pairwise_cons.2 ⟨fun b hb => eq ▸ hx.1 b hb, hx.2⟩
      · next nlt ne => exact List.pairwise_cons.2 ⟨fun b hb => by
          rcases mem_putConn hb with rfl | hb
          · exact lt_of_le_of_ne (not_lt.1 nlt) (Ne.symm ne)
          · exact hx.1 b hb, ih hx.2⟩

theorem Inner.setConns (i : Inner s t) (l : List Conn)
    (h : (t.conns.Pairwise fun a b => a.handle < b.handle) → l.Pairwise fun a b => a.handle < b.handle) :
    Inner s { t with conns := l } :=
  ⟨i.fixed, i.sent, i.marks, fun b => ⟨(i.bounded b).inputs, (i.bounded b).claims, (i.bounded b).notices,
    h (i.bounded b).handles⟩⟩

/-- A map that keeps the handles keeps their order. -/
theorem pairwise_map_handle {f : Conn → Conn} (hf : ∀ c, (f c).handle = c.handle) {l : List Conn}
    (h : l.Pairwise fun a b => a.handle < b.handle) : (l.map f).Pairwise fun a b => a.handle < b.handle := by
  rw [List.pairwise_map]
  exact h.imp fun h => by simpa only [hf] using h

theorem Inner.markConn (i : Inner s t) (c : Conn) : Inner s (t.markConn c) := (i.markDesk _).markSource _

theorem Inner.createConn (i : Inner s t) (c : Conn) : Inner s (t.createConn c) :=
  (i.setConns _ pairwise_putConn).markConn c

theorem Inner.setConn (i : Inner s t) (c : Conn) : Inner s (t.setConn c) := by
  have k := i.setConns (putConn c t.conns) pairwise_putConn
  unfold State.setConn; dsimp only; split
  · exact k.markConn c
  · split
    · exact (k.markConn _).markConn c
    · exact k

theorem Inner.removeConn (i : Inner s t) (h : Handle) : Inner s (t.removeConn h) := by
  unfold State.removeConn; split
  · exact i
  · exact (((((i.setConns _ (List.Pairwise.filter _)).setReadmissions _).setResumption _).setSlots _)).markConn _

end Sys2Proof.Machine
end

