-- ==== Sys2Proof/Laws/Budget.lean ====
section
/-!
SUPPORT. The transmitter, the Budget Unit, the notices and the Connection Table keep what `Inner` says.
-/

namespace Sys2Proof.Machine

variable {s t : State}

/-! ## Transmitter -/

theorem InputPath.start_led (p : InputPath) : p.start.led = p.led := by
  unfold InputPath.start; split
  · rfl
  · split
    · rfl
    · split <;> rfl

/-- What no pointer entry is has no movement out of range. -/
theorem InputBody.legal_of_not_pointer {b : InputBody} (h : ∀ dx dy w k, b ≠ .pointer dx dy w k) : b.Legal := by
  cases b with
  | pointer dx dy w k => exact absurd rfl (h dx dy w k)
  | keys _ _ => trivial
  | releaseAll => trivial

theorem InputPath.Bounded.start {p : InputPath} (h : p.Bounded) : p.start.Bounded := by
  unfold InputPath.start; split
  · exact h
  · split
    · exact h.same rfl rfl
    · split
      · exact h
      · next e rest q =>
        have len : rest.length + 1 ≤ Config.inputQueueCapacity := by have := h.queue; rwa [q] at this
        refine ⟨?_, fun f m => ?_, by simp⟩
        · cases p.deferred <;> simp <;> omega
        · rcases List.mem_append.1 m with m | m
          · exact h.movements f (q ▸ List.mem_cons_of_mem e m)
          · exact InputBody.legal_of_not_pointer (h.deferred f (Option.mem_toList.1 m)).2

theorem Inner.kick (i : Inner s t) (x : Source) : Inner s (t.kick x) := by
  unfold State.kick; split
  · exact i.setInput x _ (InputPath.start_led _) InputPath.Bounded.start
  · exact i

theorem Inner.sendTierSet (i : Inner s t) (h : HeadId) (r : Tier) : Inner s (t.sendTierSet h r) := by
  have k := i.setInput h.source { t.input h.source with tierSets := (t.input h.source).tierSets ++ [(h.head, r)] } rfl
    (·.same rfl rfl)
  unfold State.sendTierSet; split
  · exact (k.setTier h _ (by rfl)).kick _
  · exact i

/-! ## Budget Unit -/

theorem Inner.beginWalk (i : Inner s t) : Inner s t.beginWalk := i.setWalk ..

theorem Inner.restartDelay (i : Inner s t) : Inner s t.restartDelay := by
  unfold State.restartDelay; split
  · exact i.beginWalk
  · exact i.setWalk ..

theorem Inner.noteDecrease (i : Inner s t) (b : Bool) : Inner s (t.noteDecrease b) := by
  unfold State.noteDecrease; dsimp only; split
  · exact (i.setResumption _).restartDelay
  · exact i.setResumption _

theorem Inner.walkSettles (i : Inner s t) (h : HeadId) (a b : Bool) : Inner s (t.walkSettles h a b) := by
  unfold State.walkSettles; split
  · split
    · exact i.setRestoration _
    · exact i
  · exact i

theorem Inner.changeSettled (i : Inner s t) (h : HeadId) : Inner s (t.changeSettled h) := i.setAdmissions _

theorem Inner.failIssuer (i : Inner s t) (o : ChangeOrigin) (h : HeadId) : Inner s (t.failIssuer o h) := by
  unfold State.failIssuer; split
  · exact i.setAdmissions _
  · exact i

theorem Inner.openChange (i : Inner s t) (h : HeadId) (n : Tier) (o : ChangeOrigin) : Inner s (t.openChange h n o) := by
  unfold State.openChange
  exact (i.setTier h _ (by rfl)).sendTierSet h n

theorem Inner.abandonChange (i : Inner s t) (h : HeadId) (b : Bool) : Inner s (t.abandonChange h b) := by
  unfold State.abandonChange; dsimp only; split
  · exact i
  · refine Inner.walkSettles ?_ _ _ _
    have k := (i.setTier h { t.tier h with change := none } rfl).changeSettled h
    split
    · exact k
    · exact k.failIssuer ..

theorem Inner.returnHead (i : Inner s t) (h : HeadId) : Inner s (t.returnHead h) := by
  unfold State.returnHead; dsimp only
  have k := (i.abandonChange h false).setTier h
    { (t.abandonChange h false).tier h with tier := t.preferredTier h } rfl
  split
  · exact k.sendTierSet ..
  · exact k

theorem Inner.syncReservations (i : Inner s t) : Inner s t.syncReservations :=
  i.setConns _ fun h => by refine pairwise_map_handle (fun _ => ?_) h; rfl

theorem Inner.account (old : State) (i : Inner s t) (b : Bool) : Inner s (State.account old t b) := by
  unfold State.account; dsimp only
  have k := i.foldl (fun _ h i => i.returnHead h)
    (old.keptHeads.filter fun h => !t.carried h && (old.carried h || !t.holds h))
  split
  · exact (((k.markSources _).markDesks _).syncReservations).noteDecrease b
  · exact ((k.markSources _).markDesks _).syncReservations

theorem Inner.accounted (i : Inner s t) {f : State → State} (h : ∀ u, Inner s u → Inner s (f u)) :
    Inner s (t.accounted f) := Inner.account t (h t i) true

theorem Inner.standAdmission (i : Inner s t) (a : Admission) : Inner s (t.standAdmission a) := by
  unfold State.standAdmission; split
  · exact i.setAdmissions _
  · exact i.setAdmissions _

theorem Inner.openRaises (i : Inner s t) (id : Nat) (p : Paper) : Inner s (t.openRaises id p) := by
  unfold State.openRaises
  refine i.foldl (fun t h i => ?_) _
  split
  · exact i.openChange ..
  · exact i

theorem Inner.runAdmission (i : Inner s t) (id : Nat) (o : AdmissionOwner) (pl : List Placement) (b : Bool) :
    Inner s (t.runAdmission id o pl b).1 := by
  unfold State.runAdmission; dsimp only; split
  · exact i.standAdmission _
  · split
    · split
      · exact i
      · exact (i.openRaises ..).standAdmission _
    · split
      · exact i.standAdmission _
      · exact i

theorem Inner.beginAdmission (i : Inner s t) (o : AdmissionOwner) (pl : List Placement) :
    Inner s (t.beginAdmission o pl).1 :=
  Inner.runAdmission (t := { t with nextAdmission := t.nextAdmission + 1 }) (i.same rfl rfl rfl rfl rfl rfl rfl) ..

theorem Inner.withdrawAdmission (i : Inner s t) (o : AdmissionOwner) : Inner s (t.withdrawAdmission o) := by
  unfold State.withdrawAdmission; split
  · exact i.accounted fun _ i => i.setAdmissions _
  · exact i

theorem Inner.endAdmission (i : Inner s t) (id : Nat) : Inner s (t.endAdmission id) :=
  i.accounted fun _ i => i.setAdmissions _

theorem Inner.acknowledge (i : Inner s t) (h : HeadId) (r : Tier) : Inner s (t.acknowledge h r) := by
  unfold State.acknowledge; dsimp only; split
  · exact i
  · split
    · exact i
    · exact ((Inner.account t (i.setTier h _ (by rfl)) true).changeSettled h).walkSettles ..

theorem Inner.changeTimeout (i : Inner s t) (h : HeadId) : Inner s (t.changeTimeout h) := by
  unfold State.changeTimeout; dsimp only; split
  · exact i
  · exact ((((Inner.account t (i.setTier h _ (by rfl)) _).sendTierSet ..).changeSettled h).failIssuer ..).walkSettles ..

theorem Inner.walkStep (i : Inner s t) {u : State} (h : t.walkStep = some u) : Inner s u := by
  unfold State.walkStep at h
  split at h
  · dsimp only at h
    split at h
    · cases h
    · split at h
      · split at h <;> cases h
        · exact i.setRestoration _
        · exact Inner.account _ ((i.setRestoration _).openChange ..) true
      · split at h <;> cases h <;> exact i.setRestoration _
  · cases h

/-! ## Notices -/

theorem Inner.listNotice (i : Inner s t) (d : Desk) (n : Notice) : Inner s (t.listNotice d n) := by
  unfold State.listNotice; dsimp only; split
  · exact i
  · split
    · exact i
    · split
      · next lt =>
        have k := i.setNotices d (t.noticeList d ++ [n]) fun _ => by
          simp only [List.length_append, List.length_singleton]; omega
        split
        · exact k.sendDesk ..
        · exact k
      · next ge =>
        refine i.setNotices d _ fun h => ?_
        simp only [List.length_append, List.length_dropLast, List.length_singleton]
        have : Config.noticeCapacity = 4 := rfl
        omega

theorem Inner.cancelWaiting (i : Inner s t) (d : Desk) (e : Detail) : Inner s (t.cancelWaiting d e) := by
  unfold State.cancelWaiting; split
  · exact i
  · exact (i.respond ..).setStack ..

theorem Inner.cancelControl (i : Inner s t) (d : Desk) (x : Option Source) (r : Detail) :
    Inner s (t.cancelControl d x r) := by
  unfold State.cancelControl; split
  · exact i
  · split
    · exact i.answerDesk ..
    · exact i

theorem Inner.raiseNotice (i : Inner s t) (d : Desk) (k : NoticeKind) (x : Option Source) (c : Option ScreenIx) :
    Inner s (t.raiseNotice d k x c) := by
  unfold State.raiseNotice; dsimp only
  refine Inner.listNotice ?_ d _
  split
  · exact (i.cancelWaiting ..).cancelControl ..
  · exact i

/-! ## Connection Table -/

theorem Inner.post (i : Inner s t) (scr : ScreenId) (c : Content) (b : Bool) : Inner s (t.post scr c b) := by
  unfold State.post; dsimp only; split
  · exact i
  · split
    · exact i.setPosition ..
    · exact i.setPosition ..

theorem Inner.postFor (i : Inner s t) (h : Handle) : Inner s (t.postFor h) := by
  unfold State.postFor; split
  · exact i
  · split
    · exact i
    · split
      · exact (i.post ..).setConn _
      · split
        · exact i
        · exact i.post ..

theorem Inner.repost (i : Inner s t) (scr : ScreenId) : Inner s (t.repost scr) := by
  unfold State.repost; split
  · exact i
  · split
    · exact i.postFor _
    · split
      · exact i.post ..
      · split
        · exact i.post ..
        · exact i.postFor _

theorem Inner.listReadmit (i : Inner s t) (r : Trigger) (p : Conn → Bool) : Inner s (t.listReadmit r p) :=
  i.setReadmissions _

theorem Inner.unlistReadmit (i : Inner s t) (h : Handle) : Inner s (t.unlistReadmit h) := i.setReadmissions _

theorem Inner.followBudget (i : Inner s t) (h : Handle) (st : RecordState) : Inner s (t.followBudget h st) :=
  i.setResumption _

theorem Inner.restartDwell (i : Inner s t) (h : Handle) : Inner s (t.restartDwell h) := by
  unfold State.restartDwell; split
  · exact i
  · split
    · exact i
    · dsimp only; split
      · exact i.setConn _
      · exact (i.setConn _).markDesk _

theorem Inner.answerConn (i : Inner s t) (c : Conn) (o : ResponseOutcome) (d : Detail) (data : List Byte) :
    Inner s (t.answerConn c o d data) := by
  unfold State.answerConn; split
  · exact i
  · exact i.answerDesk ..
  · exact i.answerCommand ..

theorem Inner.answerDone (i : Inner s t) (c : Conn) (st : RecordState) : Inner s (t.answerDone c st) := by
  unfold State.answerDone; split
  · exact i.answerConn ..
  · exact i.answerConn ..

theorem Inner.noteForced (i : Inner s t) (c : Conn) : Inner s (t.noteForced c) := by
  unfold State.noteForced; split
  · exact i.raiseNotice ..
  · exact i

theorem Inner.moveTo (i : Inner s t) (h : Handle) (st : RecordState) : Inner s (t.moveTo h st) := by
  unfold State.moveTo; split
  · exact i
  · next c _ =>
    dsimp only
    refine Inner.noteForced ?_ _
    have k1 : Inner s (if c.state = .admitting then t.withdrawAdmission (.record h) else t) := by
      split
      · exact i.withdrawAdmission _
      · exact i
    have k2 {u : State} (k : Inner s u) : Inner s (if c.state = .switching ∧ c.replaces = none then u.stopLockTimer c.screen else u) := by
      split
      · exact k.stopLockTimer _
      · exact k
    have k5 {u : State} (k : Inner s u) : Inner s (if c.auto = some .step then u.restartDwell h else u) := by
      split
      · exact k.restartDwell _
      · exact k
    have k7 {u : State} (k : Inner s u) :
        Inner s (if st = .suspended .privacy then u.raiseNotice c.desk .privacy (some c.source) none else u) := by
      split
      · exact k.raiseNotice ..
      · exact k
    exact k7 ((k5 (((k2 k1).accounted fun _ i => (i.setConn _).followBudget ..).setSlots _)).postFor h)

theorem Inner.enter (i : Inner s t) (h : Handle) (st : RecordState) : Inner s (t.enter h st) := by
  unfold State.enter; split
  · exact i
  · split
    · exact (i.moveTo h st).answerDone ..
    · exact i.moveTo h st

theorem Inner.lockFails (i : Inner s t) (h : Handle) : Inner s (t.lockFails h) := by
  unfold State.lockFails; split
  · exact i
  · exact (i.moveTo h _).answerConn ..

theorem Inner.grantRecord (i : Inner s t) (h : Handle) : Inner s (t.grantRecord h) := by
  unfold State.grantRecord; split
  · exact i
  · exact (((i.accounted fun _ i => (i.setConn _).followBudget ..).withdrawAdmission _).postFor h).noteForced _

theorem Inner.withholdFor (i : Inner s t) (x : Source) (p : Option Desk) : Inner s (t.withholdFor x p) := by
  unfold State.withholdFor
  exact (i.foldl (fun _ _ i => (i.enter ..).unlistReadmit _) _).listReadmit _ _

end Sys2Proof.Machine
end

