-- ==== Sys2Proof/Laws/Arbiter.lean ====
section
/-!
SUPPORT. The staging entries, the Input Router, the Control Arbiter and the Connection Manager keep what `Inner` says.
-/

namespace Sys2Proof.Machine

variable {s t : State}

/-! ## Staging entries -/

theorem Inner.touch (i : Inner s t) (p : StageEntry → Bool) : Inner s (t.touch p) := i.setSlots _

theorem Inner.mapEntries (i : Inner s t) (w : Slot → Bool) (p : StageEntry → Bool) (f : SlotEntry → SlotEntry) :
    Inner s (t.mapEntries w p f) := by
  refine i.accounted fun u i => i.foldl (fun u j i => ?_) _
  split
  · exact i.setSlot ..
  · exact i

theorem Inner.uncharge (i : Inner s t) (p : StageEntry → Bool) : Inner s (t.uncharge p) := i.mapEntries ..

theorem Inner.repostEntries (i : Inner s t) (p : StageEntry → Bool) : Inner s (t.repostEntries p) :=
  i.foldl (fun _ _ i => i.post ..) _

theorem Inner.leaveCommit (i : Inner s t) (p : StageEntry → Bool) : Inner s (t.leaveCommit p) :=
  (i.mapEntries ..).foldl (fun _ _ i => i.repost _) _

theorem Inner.stagerHeadLeft (i : Inner s t) (h : HeadId) : Inner s (t.stagerHeadLeft h) :=
  ((i.uncharge _).repostEntries _).touch _

theorem Inner.stagerHeadMoved (i : Inner s t) (h : HeadId) : Inner s (t.stagerHeadMoved h) := i.repostEntries _

theorem Inner.stagerHeadActive (i : Inner s t) (h : HeadId) : Inner s (t.stagerHeadActive h) := i.touch _

theorem Inner.stagerHeadBeyond (i : Inner s t) (h : HeadId) : Inner s (t.stagerHeadBeyond h) := i.touch _

theorem Inner.stagerPrivacy (i : Inner s t) (x : Source) : Inner s (t.stagerPrivacy x) := by
  unfold State.stagerPrivacy; dsimp only
  exact ((i.mapEntries ..).foldl (fun _ _ i => i.post ..) _).touch _

theorem Inner.stagerDeskLost (i : Inner s t) (d : Desk) : Inner s (t.stagerDeskLost d) := by
  unfold State.stagerDeskLost; dsimp only
  exact ((i.mapEntries ..).repostEntries _).touch _

theorem Inner.stagerDeskDown (i : Inner s t) (d : Desk) : Inner s (t.stagerDeskDown d) := (i.leaveCommit _).touch _

theorem Inner.stagerScreens (i : Inner s t) (d : Desk) (n : Nat) : Inner s (t.stagerScreens d n) := by
  unfold State.stagerScreens; dsimp only
  exact (i.leaveCommit _).touch _

/-! ## Input Router -/

theorem InputPath.join_led (p : InputPath) (e : InputEntry) : (p.join e).led = p.led := by
  unfold InputPath.join; split <;> rfl

/-- An entry joins the tail of a queue with room: no item is deferred there. -/
theorem InputPath.Bounded.append {p : InputPath} (h : p.Bounded) (r : p.queue.length < Config.inputQueueCapacity) {e : InputEntry}
    (l : e.body.Legal) : ({ p with queue := p.queue ++ [e] } : InputPath).Bounded where
  queue := by simp only [List.length_append, List.length_singleton]; omega
  movements f m := by
    rcases List.mem_append.1 m with m | m
    · exact h.movements f m
    · cases List.mem_singleton.1 m; exact l
  deferred f m := by have := (h.deferred f m).1; omega

theorem InputPath.Bounded.join {p : InputPath} (h : p.Bounded) {e : InputEntry} (k : ∀ dx dy w b, e.body ≠ .pointer dx dy w b) :
    (p.join e).Bounded := by
  unfold InputPath.join; split
  · next r => exact h.append r (InputBody.legal_of_not_pointer k)
  · next r =>
    refine ⟨h.queue, h.movements, fun f m => ?_⟩
    cases m
    exact ⟨le_antisymm h.queue (not_lt.1 r), k⟩

theorem saturate_legal {n m : Int} (h : 0 ≤ n) : -n ≤ saturate n m ∧ saturate n m ≤ n := by
  unfold saturate; split
  · omega
  · split <;> omega

theorem mergePointer_legal (d : Desk) (a b : Int × Int × Int) (k : BitVec 5) : (mergePointer d a b k).body.Legal :=
  ⟨saturate_legal (by decide), saturate_legal (by decide), saturate_legal (by decide)⟩

/-- A POINTER report that a queue takes in leaves its law and the LED state standing. -/
theorem InputPath.point_keeps {p q : InputPath} {d : Desk} {x y w : Int} {b : BitVec 5} (h : p.point d x y w b = some q)
    (l : (InputBody.pointer x y w b).Legal) : q.led = p.led ∧ (p.Bounded → q.Bounded) := by
  unfold InputPath.point at h
  dsimp only at h
  split at h
  · next last =>
    split at h
    · cases h
      have ne : p.queue ≠ [] := fun e => by simp [e] at last
      have len (e : InputEntry) : (p.queue.dropLast ++ [e]).length = p.queue.length := by
        have := List.length_pos_of_ne_nil ne
        simp only [List.length_append, List.length_dropLast, List.length_singleton]
        omega
      refine ⟨rfl, fun k => ⟨(len _).trans_le k.queue, fun f m => ?_, fun f m => ⟨(len _).trans (k.deferred f m).1, (k.deferred f m).2⟩⟩⟩
      rcases List.mem_append.1 m with m | m
      · exact k.movements f (List.dropLast_subset _ m)
      · cases List.mem_singleton.1 m; exact mergePointer_legal ..
    · split at h
      · next r => cases h; exact ⟨rfl, fun k => k.append r l⟩
      · cases h
  · split at h
    · next r => cases h; exact ⟨rfl, fun k => k.append r l⟩
    · cases h

theorem Inner.queueRelease (i : Inner s t) (x : Source) (d : Desk) : Inner s (t.queueRelease x d) := by
  unfold State.queueRelease; split
  · exact (i.setInput x _ (InputPath.join_led ..) (·.join (by simp))).kick _
  · exact i

theorem Inner.queueReport (i : Inner s t) (x : Source) (d : Desk) {b : InputBody} (l : b.Legal) :
    Inner s (t.queueReport x d b).1 := by
  unfold State.queueReport; split
  · split
    · next h => exact (i.setInput x _ (InputPath.point_keeps h l).1 (InputPath.point_keeps h l).2).kick _
    · exact i
  · next k => exact (i.setInput x _ (InputPath.join_led ..) (·.join k)).kick _

theorem Inner.setSharer (i : Inner s t) (x : Source) (v : Option Sharer) : Inner s (t.setSharer x v) := by
  unfold State.setSharer; dsimp only
  have k := i.setInput x { t.input x with sharer := v } rfl (·.same rfl rfl)
  split
  · exact k
  · exact (k.markSource _).markDesks _

theorem Inner.sharedReport (i : Inner s t) (x : Source) (d : Desk) {b : InputBody} (l : b.Legal) : Inner s (t.sharedReport x d b) := by
  unfold State.sharedReport; split
  · exact (i.setSharer ..).queueReport _ _ l
  · split
    · exact (i.setSharer ..).queueReport _ _ l
    · split
      · exact ((i.setSharer ..).queueRelease ..).queueReport _ _ l
      · exact i

theorem Inner.takeReport (i : Inner s t) (d : Desk) {b : InputBody} (l : b.Legal) : Inner s (t.takeReport d b) := by
  unfold State.takeReport; split
  · exact i
  · split
    · exact i
    · split
      · exact i.sharedReport _ _ l
      · dsimp only; split
        · exact (i.queueReport _ _ l).setLastInput _
        · exact i.queueReport _ _ l

theorem Inner.route (i : Inner s t) (r : DriverReport) : Inner s (r.route t) := by
  unfold DriverReport.route; split
  · split
    · exact i.setSharer ..
    · exact i.queueRelease ..
  · split
    · exact i
    · exact i.queueRelease ..
  · exact i.queueRelease ..
  · split
    · exact i
    · split
      · split
        · exact i
        · exact (i.setSharer ..).queueRelease ..
      · split
        · exact i.setSharer ..
        · exact (i.setSharer ..).queueRelease ..
      · exact (i.setSharer ..).queueRelease ..
  · exact i

theorem Inner.moveTarget (i : Inner s t) (d : Desk) (v : Option Source) : Inner s (t.moveTarget d v) := by
  unfold State.moveTarget; dsimp only; split
  · exact i.setTarget ..
  · exact (i.setTarget ..).setMovedTargets _

theorem Inner.setPause (i : Inner s t) (d : Desk) (x : Source) (b : Bool) : Inner s (t.setPause d x b) := by
  refine i.foldl (fun u c i => ?_) _
  split
  · exact i
  · split
    · exact i
    · exact (i.setConn _).markDesk _

theorem Inner.ceaseDriving (i : Inner s t) (x : Source) (d : Desk) : Inner s (t.ceaseDriving x d) := by
  unfold State.ceaseDriving
  have k := i.setPause d x (t.dueTarget d = some x)
  dsimp only; split
  · exact k.moveTarget ..
  · exact k

theorem Inner.beginDriving (i : Inner s t) (x : Source) (d : Desk) : Inner s (t.beginDriving x d) := by
  unfold State.beginDriving; split
  · dsimp only; split
    · exact i.setPause ..
    · exact (i.setPause ..).moveTarget ..
  · exact i

theorem Inner.takeDriverReport (i : Inner s t) (r : DriverReport) : Inner s (t.takeDriverReport r) :=
  ((i.route r).foldl (fun _ _ i => i.ceaseDriving ..) _).foldl (fun _ _ i => i.beginDriving ..) _

theorem Inner.giveReports (i : Inner s t) : Inner s t.giveReports :=
  (i.setReports []).foldl (fun _ r i => i.takeDriverReport r) _

theorem Inner.tellTarget (i : Inner s t) (d : Desk) (old : Option Source) : Inner s (t.tellTarget d old) := by
  unfold State.tellTarget; split
  · exact i
  · split
    · exact i.sendDesk ..
    · split
      · exact i
      · exact i.sendDesk ..

theorem Inner.tellTargets (i : Inner s t) : Inner s t.tellTargets :=
  (i.setMovedTargets []).foldl (fun _ p i => i.tellTarget p.1 p.2) _

/-! ## Control Arbiter -/

theorem Inner.dropClaim (i : Inner s t) (x : Source) (d : Desk) : Inner s (t.dropClaim x d) :=
  i.setClaims x _ fun h => (List.length_filter_le ..).trans h

theorem Inner.hold (i : Inner s t) (x : Source) (d : Desk) (m : Mode) : Inner s (t.hold x d m) := i.setControl ..

theorem Inner.endDriving (i : Inner s t) (x : Source) : Inner s (t.endDriving x).1 := i.setControl ..

theorem Inner.leaveSet (i : Inner s t) (x : Source) (d : Desk) : Inner s (t.leaveSet x d).1 := by
  unfold State.leaveSet; split
  · split
    · exact i.endDriving x
    · next m _ =>
      have k := i.setControl x (.shared [m])
      dsimp only; split
      · next c _ => dsimp only; exact ((k.dropClaim x m).hold x m c.mode).raiseNotice m .granted (some x) none
      · exact k
    · exact i.setControl ..
  · exact i

theorem length_dropWhile_le {α : Type} (p : α → Bool) (l : List α) : (l.dropWhile p).length ≤ l.length := by
  simpa using (List.dropWhile_sublist p (l := l)).length_le

theorem Inner.passGrant (i : Inner s t) (x : Source) (was : Option Desk) : Inner s (t.passGrant x was).1 := by
  unfold State.passGrant; dsimp only; split
  · exact i.setClaims x [] fun _ => Nat.zero_le _
  · next c rest h =>
    refine Inner.raiseNotice (Inner.hold (i.setClaims x rest fun k => ?_) ..) ..
    have := length_dropWhile_le (fun c => !t.claimStands x c) (t.claims x)
    rw [h, List.length_cons] at this
    omega

theorem Inner.reportPrivacy (i : Inner s t) (x : Source) (was : Option Desk) : Inner s (t.reportPrivacy x was) := by
  unfold State.reportPrivacy; split
  · exact i
  · exact (i.withholdFor ..).stagerPrivacy _

theorem Inner.doWork (i : Inner s t) (w : Work) : Inner s (t.doWork w).1 := by
  unfold State.doWork; split
  · exact i.passGrant ..
  · split
    · exact i.dropClaim ..
    · exact i
  · split
    · exact i.endDriving _
    · exact i
  · split
    · exact i.leaveSet ..
    · exact i
  · exact i.reportPrivacy ..

theorem Inner.runWork (n : Nat) (l : List Work) (i : Inner s t) : Inner s (State.runWork n l t) := by
  induction n generalizing l t with
  | zero => cases l <;> exact i
  | succ n ih =>
    cases l with
    | nil => exact i
    | cons w l => exact ih _ (i.doWork w)

theorem Inner.arbitrate {r : State × List Work} (i : Inner s r.1) : Inner s (State.arbitrate r) :=
  (Inner.runWork 1024 r.2 i).giveReports

theorem Inner.idleTest (i : Inner s t) (x : Source) : Inner s (t.idleTest x) := by
  unfold State.idleTest; split
  · split
    · exact ((i.raiseNotice ..).endDriving x).arbitrate
    · exact i
  · exact i

theorem Inner.endRelations (i : Inner s t) (x : Source) (d : Desk) : Inner s (t.endRelations x d) := by
  unfold State.endRelations; dsimp only; split
  · split
    · exact ((i.dropClaim ..).endDriving x).arbitrate
    · exact i.dropClaim ..
  · split
    · exact ((i.dropClaim ..).leaveSet x d).arbitrate
    · exact i.dropClaim ..
  · exact i.dropClaim ..

theorem Inner.viewReport (i : Inner s t) (d : Desk) (x : Source) : Inner s (t.viewReport d x) := by
  unfold State.viewReport; split
  · exact i
  · exact i.endRelations ..

theorem Inner.endDeskRelations (i : Inner s t) (d : Desk) : Inner s (t.endDeskRelations d) := by
  unfold State.endDeskRelations; dsimp only
  have k1 : Inner s (match t.claimedBy d with
      | some x => t.dropClaim x d
      | none => t) := by
    split
    · exact i.dropClaim ..
    · exact i
  have k2 {u : State} (k : Inner s u) : Inner s (match u.heldBy d with
      | some x => State.arbitrate (u.endDriving x)
      | none => u) := by
    split
    · exact (k.endDriving _).arbitrate
    · exact k
  split
  · exact ((k2 k1).leaveSet ..).arbitrate
  · exact k2 k1

theorem Inner.setArrivals (i : Inner s t) (n : Nat) : Inner s { t with arrivals := n } :=
  i.same rfl rfl rfl rfl rfl rfl rfl

theorem length_insertClaim (c : Claim) (q : List Claim) : (insertClaim c q).length = q.length + 1 := by
  induction q with
  | nil => rfl
  | cons x q ih =>
    unfold insertClaim; split
    · rfl
    · simp only [List.length_cons, ih]

theorem Inner.queueClaim (i : Inner s t) (x : Source) (d : Desk) (m : Mode) : Inner s (t.queueClaim x d m).1 := by
  unfold State.queueClaim; dsimp only; split
  · exact i.setClaims x _ fun h => by simpa using h
  · split
    · exact i
    · next lt =>
      split
      · next y _ =>
        refine ((i.dropClaim y d).setArrivals _).setClaims x _ fun _ => ?_
        rw [length_insertClaim]; omega
      · refine (i.setArrivals _).setClaims x _ fun _ => ?_
        rw [length_insertClaim]; omega

theorem Inner.grantOrQueue (i : Inner s t) (x : Source) (d : Desk) (m : Mode) (p : Bool) :
    Inner s (t.grantOrQueue x d m p).1 := by
  have g := (i.dropClaim x d).hold x d m
  unfold State.grantOrQueue; dsimp only; split
  · exact g
  · split
    · split
      · exact i
      · exact i.setControl ..
    · split
      · exact g.raiseNotice ..
      · exact i.queueClaim ..
  · split
    · exact g
    · split
      · exact g.foldl (fun _ _ i => i.raiseNotice ..) _
      · exact i.queueClaim ..

theorem Inner.doTake (i : Inner s t) (d : Desk) (a b c : Byte) : Inner s (t.doTake d a b c).1 := by
  unfold State.doTake; split
  · split
    · exact i
    · split
      · exact i
      · exact i.grantOrQueue ..
  · exact i

theorem Inner.doShare (i : Inner s t) (d : Desk) (a : Byte) : Inner s (t.doShare d a).1 := by
  unfold State.doShare; split
  · exact i
  · split
    · exact i
    · split
      · exact i
      · dsimp only; split
        · exact i.setControl ..
        · split
          · exact i
          · exact i.setControl ..
        · split
          · exact i.setControl ..
          · exact i

theorem Inner.doRelease (i : Inner s t) (d : Desk) : Inner s (t.doRelease d).1 := by
  unfold State.doRelease; split
  · exact i.endDriving _
  · split
    · exact i.leaveSet ..
    · exact i

theorem Inner.doWithdraw (i : Inner s t) (d : Desk) : Inner s (t.doWithdraw d).1 := by
  unfold State.doWithdraw; split
  · exact i.dropClaim ..
  · exact i

theorem Inner.doForceRelease (i : Inner s t) (x : Source) : Inner s (t.doForceRelease x).1 := by
  unfold State.doForceRelease; split
  · exact i
  · exact (i.endDriving x).foldl (fun _ _ i => i.raiseNotice ..) _

/-! ## Connection Manager -/

theorem Inner.dropConn (i : Inner s t) (h : Handle) : Inner s (t.dropConn h) := by
  unfold State.dropConn; split
  · exact i
  · dsimp only; split
    · exact (((i.withdrawAdmission _).stopLockTimer _).accounted fun _ i => i.removeConn h).viewReport ..
    · exact ((i.withdrawAdmission _).accounted fun _ i => i.removeConn h).viewReport ..

theorem Inner.retire (i : Inner s t) (h : Handle) : Inner s (t.retire h) := by
  unfold State.retire; split
  · exact i
  · exact (i.dropConn h).repost _

theorem Inner.retireAll (i : Inner s t) (p : Conn → Bool) : Inner s (t.retireAll p) :=
  i.foldl (fun _ h i => i.retire h) _

theorem Inner.abandon (i : Inner s t) (h : Handle) : Inner s (t.abandon h) := by
  unfold State.abandon; split
  · exact i
  · split
    · exact i.setConn _
    · split
      · exact ((i.withdrawAdmission _).accounted fun _ i => (i.setConn _).followBudget ..).repost _
      · exact i.retire h

theorem Inner.supersede (i : Inner s t) (scr : ScreenId) : Inner s (t.supersede scr) := by
  unfold State.supersede; split
  · exact i
  · exact (i.abandon _).answerDesk ..

theorem Inner.forceSupersedes (i : Inner s t) (scr : ScreenId) : Inner s (t.forceSupersedes scr) := by
  unfold State.forceSupersedes; dsimp only; split
  · exact (i.supersede scr).stopLockTimer scr
  · exact i.supersede scr

theorem Inner.runLockTimer (i : Inner s t) (scr : ScreenId) : Inner s (t.runLockTimer scr) := by
  unfold State.runLockTimer; split
  · exact i.startLockTimer scr
  · exact i

theorem Inner.refuseRecord (i : Inner s t) (h : Handle) (d : Detail) : Inner s (t.refuseRecord h d) := by
  unfold State.refuseRecord; split
  · exact i
  · split
    · exact i.enter ..
    · exact (i.abandon h).answerConn ..

theorem Inner.askAdmission (i : Inner s t) (h : Handle) : Inner s (t.askAdmission h) := by
  unfold State.askAdmission; split
  · exact i
  · next c _ =>
    have k := i.beginAdmission (.record h) [⟨c.head, c.screen⟩]
    split
    · next e => rw [e] at k; exact k.grantRecord h
    · next e => rw [e] at k; exact k.refuseRecord ..
    · next e => rw [e] at k; exact k

end Sys2Proof.Machine
end

