-- ==== Sys2Proof/Laws/Settle.lean ====
section
/-!
SUPPORT. Bring-ups, the Layout Stager, requests and the work that a taking leaves keep what `Inner` says; so does the end of
every taking (`Inner.settle`).
-/

namespace Sys2Proof.Machine

variable {s t : State}

/-! ## Bring-up -/

theorem Inner.stepTwo (i : Inner s t) (h : Handle) : Inner s (t.stepTwo h) := by
  unfold State.stepTwo; split
  · exact i
  · split
    · exact i.enter ..
    · split
      · exact i.enter ..
      · exact i.askAdmission h

theorem Inner.connectFresh (i : Inner s t) (scr : ScreenId) (h : HeadId) (o : Origin) (k : Option Scan) (w : Requester) :
    Inner s (t.connectFresh scr h o k w) := by
  unfold State.connectFresh; split
  · exact i
  · exact (i.createConn _).stepTwo _

theorem Inner.connectReplacing (i : Inner s t) (c : Conn) (h : HeadId) (o : Origin) (k : Option Scan) (w : Requester) :
    Inner s (t.connectReplacing c h o k w) := by
  unfold State.connectReplacing; dsimp only
  exact ((i.createConn _).unlistReadmit _).stepTwo _

theorem Inner.connectSame (i : Inner s t) (c : Conn) (o : Origin) (k : Option Scan) (w : Requester) :
    Inner s (t.connectSame c o k w) := by
  have atOnce := (i.setConn (c.adopt o k)).answerDone { c.adopt o k with answerTo := some w } c.state
  have inPlace := ((i.setConn { c.adopt o k with
    state := .admitting, step := some .admission, answerTo := some w, auto := none, prior := some c.state }).unlistReadmit
      c.handle).stepTwo c.handle
  unfold State.connectSame; dsimp only; split
  · exact atOnce
  · exact atOnce
  · exact atOnce
  · exact inPlace
  · exact inPlace
  · exact (i.setConn _).runLockTimer _
  · split
    · exact atOnce
    · exact inPlace
  · exact atOnce

theorem Inner.classify (i : Inner s t) (scr : ScreenId) (h : HeadId) (o : Origin) (k : Option Scan) (w : Requester) :
    Inner s (t.classify scr h o k w) := by
  unfold State.classify; split
  · exact i.connectFresh ..
  · split
    · exact i.connectSame ..
    · exact i.connectReplacing ..

theorem Inner.autoAdmit (i : Inner s t) (c : Conn) (a : Automatic) : Inner s (t.autoAdmit c a) := by
  unfold State.autoAdmit; dsimp only
  exact (i.accounted fun _ i => i.setConn _).askAdmission _

theorem Inner.readmit (i : Inner s t) (r : Readmit) : Inner s (t.readmit r) := by
  unfold State.readmit; split
  · exact i
  · split
    · exact i
    · split
      · exact i.enter ..
      · split
        · exact i.enter ..
        · split
          · exact i.enter ..
          · exact i.autoAdmit ..

theorem Inner.readmitNext (i : Inner s t) {u : State} (h : t.readmitNext = some u) : Inner s u := by
  unfold State.readmitNext at h
  split at h
  · cases h
  · split at h
    · cases h
    · cases h; exact (i.setReadmissions _).readmit _

theorem Inner.resumeNext (i : Inner s t) {u : State} (h : t.resumeNext = some u) : Inner s u := by
  unfold State.resumeNext at h
  dsimp only at h
  split at h
  · split at h
    · cases h; exact i.setResumption _
    · cases h
  · split at h
    · cases h
    · split at h
      · cases h; exact i.setResumption _
      · split at h
        · cases h; exact i.setResumption _
        · split at h
          · cases h; exact i.setResumption _
          · cases h; exact (i.setResumption _).autoAdmit ..

/-! ## Layout Stager -/

theorem Inner.emptySlot (i : Inner s t) (j : SlotIx) : Inner s (t.emptySlot j) := i.accounted fun _ i => i.setSlot ..

theorem Inner.answerRecall (i : Inner s t) (j : SlotIx) (o : ResponseOutcome) (d : Detail) (data : List Byte) :
    Inner s (t.answerRecall j o d data) := by
  unfold State.answerRecall; split
  · exact i.answerDesk ..
  · exact i

theorem Inner.armFails (i : Inner s t) (j : SlotIx) (w : Owner) (n : Nat) (d : Detail) :
    Inner s (t.armFails j w n d) := by
  unfold State.armFails; dsimp only; split
  · exact ((i.withdrawAdmission _).setSlot ..).answerCommand ..
  · exact ((i.withdrawAdmission _).emptySlot _).answerRecall ..

theorem Inner.beginCommit (i : Inner s t) (j : SlotIx) : Inner s (t.beginCommit j) := by
  unfold State.beginCommit; dsimp only
  exact (i.setSlot ..).foldl (fun _ _ i => i.post ..) _

theorem Inner.completeCommit (i : Inner s t) (j : SlotIx) : Inner s (t.completeCommit j) := by
  unfold State.completeCommit; dsimp only; split
  · split
    · exact (i.emptySlot _).answerCommand ..
    · exact (i.emptySlot _).answerRecall ..
  · exact (i.emptySlot _).answerRecall ..

theorem Inner.touchOverlapping (i : Inner s t) (j : SlotIx) : Inner s (t.touchOverlapping j) := i.setSlots _

theorem Inner.grantArm (i : Inner s t) (j : SlotIx) (w : Owner) : Inner s (t.grantArm j w) := by
  unfold State.grantArm
  extract_lets hold s1 s2
  have k : Inner s s2 := ((i.accounted fun _ i => i.setSlot ..).withdrawAdmission _).touchOverlapping j
  split
  · exact k.answerCommand ..
  · exact k.beginCommit j

theorem Inner.startArming (i : Inner s t) (j : SlotIx) (w : Owner) : Inner s (t.startArming j w) := by
  unfold State.startArming; split
  · exact i.armFails ..
  · have k := i.setSlot j { t.slot j with arming := some w, touched := false }
    dsimp only
    revert k
    generalize t.setSlot j _ = u
    intro k
    have k := k.beginAdmission (.arming j) (placementsOf (u.slot j).entries)
    split
    · next e => rw [e] at k; exact k.grantArm ..
    · next e => rw [e] at k; exact k.armFails ..
    · next e => rw [e] at k; exact k

theorem Inner.disarm (i : Inner s t) (j : SlotIx) (f : Option (Nat × Detail)) : Inner s (t.disarm j f) := by
  unfold State.disarm
  extract_lets due s1
  have k : Inner s s1 := i.accounted fun _ i => (i.withdrawAdmission _).setSlot ..
  clear_value due
  split
  · exact k.answerCommand ..
  · exact k

theorem Inner.grantRevalidation (i : Inner s t) (j : SlotIx) (pl : List Placement) :
    Inner s (t.grantRevalidation j pl) := by
  unfold State.grantRevalidation; dsimp only
  exact (i.accounted fun _ i => i.setSlot ..).withdrawAdmission _

theorem Inner.revalidate (i : Inner s t) (j : SlotIx) : Inner s (t.revalidate j) := by
  have k2 := (i.withdrawAdmission (.revalidation j)).setSlot j
    { (t.withdrawAdmission (.revalidation j)).slot j with touched := false }
  unfold State.revalidate
  dsimp only
  revert k2
  generalize (t.withdrawAdmission (.revalidation j)).setSlot j _ = u
  intro k2
  split
  · exact k2.disarm ..
  · split
    · exact k2
    · next es _ =>
      have k := k2.beginAdmission (.revalidation j) (placementsOf (u.unchargedActive (u.slot j)))
      split
      · next e => rw [e] at k; exact k.grantRevalidation ..
      · next e => rw [e] at k; exact k.disarm ..
      · next e => rw [e] at k; exact k

theorem Inner.validateAgain (i : Inner s t) (j : SlotIx) : Inner s (t.validateAgain j) := by
  unfold State.validateAgain; split
  · exact (i.withdrawAdmission _).startArming ..
  · split
    · exact i.revalidate j
    · exact i.setSlot ..

theorem Inner.dropRecall (i : Inner s t) (j : SlotIx) : Inner s (t.dropRecall j) := by
  unfold State.dropRecall; dsimp only; split
  · exact ((i.withdrawAdmission _).emptySlot j).foldl (fun _ _ i => i.repost _) _
  · exact (i.withdrawAdmission _).emptySlot j

/-! ## Requests -/

theorem Inner.takeUpConnect (i : Inner s t) (d : Desk) (a b c : Byte) : Inner s (t.takeUpConnect d a b c) := by
  unfold State.takeUpConnect; split
  · exact i.answerDesk ..
  · split
    · exact (i.setPhase ..).classify ..
    · exact i.setPhase ..

theorem Inner.takeUpScan (i : Inner s t) (d : Desk) (a : Byte) (n : Nat) (l : List (Byte × Byte)) :
    Inner s (t.takeUpScan d a n l) := by
  unfold State.takeUpScan; split
  · exact i.answerDesk ..
  · split
    · exact (i.setPhase ..).classify ..
    · exact i.setPhase ..

theorem Inner.takeUpDisconnect (i : Inner s t) (d : Desk) (a : Byte) : Inner s (t.takeUpDisconnect d a) := by
  unfold State.takeUpDisconnect; split
  · exact i.answerDesk ..
  · split
    · split
      · exact i.answerDesk ..
      · exact (i.setPhase ..).retire _
    · exact i.setPhase ..

theorem Inner.setPreset (i : Inner s t) (p : PresetIx) (v : Preset) : Inner s (t.setPreset p v) :=
  (i.setPresets _).markStore

theorem Inner.readPreset (i : Inner s t) (p : PresetIx) : Inner s (t.readPreset p) := by
  unfold State.readPreset; split
  · exact i
  · exact i.setPreset ..

theorem Inner.takeUpRecall (i : Inner s t) (d : Desk) (a : Byte) : Inner s (t.takeUpRecall d a) := by
  unfold State.takeUpRecall; split
  · exact i.answerDesk ..
  · next p _ =>
    split
    · exact i.answerDesk ..
    · have k := i.readPreset p
      dsimp only; split
      · exact k.answerDesk ..
      · exact k.answerDesk ..
      · split
        · exact k.answerDesk ..
        · split
          · exact k.answerDesk ..
          · exact ((k.setSlot ..).setPhase ..).startArming ..

theorem Inner.runControl (_ : Inner s t) (d : Desk) {r : State × List Work × Answer} (k : Inner s r.1) :
    Inner s (t.runControl d r) := by
  unfold State.runControl
  extract_lets a s1
  have k1 : Inner s s1 := (Inner.arbitrate (r := (r.1, r.2.1)) k).answerDesk ..
  split
  · exact k1
  · split
    · exact k1.idleTest _
    · exact k1

theorem Inner.beginRequest (i : Inner s t) (d : Desk) : Inner s (t.beginRequest d) := by
  unfold State.beginRequest; split
  · exact i
  · split
    · exact i.takeUpConnect ..
    · exact i.takeUpDisconnect ..
    · exact i.takeUpScan ..
    · exact i.takeUpRecall ..
    · exact i.runControl d (i.doTake ..)
    · exact i.runControl d (i.doShare ..)
    · exact i.runControl d (i.doRelease ..)
    · exact i.runControl d (i.doWithdraw ..)

theorem Inner.promote (i : Inner s t) (d : Desk) : Inner s (t.promote d) := by
  unfold State.promote; split
  · refine Inner.beginRequest ?_ d
    split
    · exact i.setStack ..
    · exact i
  · exact i

theorem Inner.intake (i : Inner s t) (d : Desk) (r : Request) : Inner s (t.intake d r) := by
  unfold State.intake; dsimp only; split
  · exact i.respond ..
  · split
    · exact i.respond ..
    · have k := i.promote d
      split
      · exact (k.setStack ..).beginRequest d
      · exact k.setStack ..
      · exact i.respond ..

/-! ## Force commands -/

theorem Inner.setForcePhase (i : Inner s t) (p : Phase) : Inner s (t.setForcePhase p) := by
  unfold State.setForcePhase; split
  · exact i.setCommand _
  · exact i.setCommand _
  · exact i

theorem Inner.forceAbsent (i : Inner s t) (scr : ScreenId) (h : HeadId) : Inner s (t.forceAbsent scr h) := by
  unfold State.forceAbsent
  extract_lets create
  have k {u : State} (k : Inner s u) : Inner s (create u) := by
    simp only [create]
    split
    · exact k
    · exact (k.createConn _).answerCommand ..
  split
  · exact k i
  · split
    · exact i.connectSame ..
    · exact k (i.retire _)

theorem Inner.takeUpForceConnect (i : Inner s t) (scr : ScreenId) (h : HeadId) :
    Inner s (t.takeUpForceConnect scr h) := by
  unfold State.takeUpForceConnect; split
  · exact i.answerCommand ..
  · split
    · exact i.answerCommand ..
    · split
      · dsimp only; split
        · exact ((i.forceSupersedes scr).setForcePhase _).classify ..
        · exact (i.forceSupersedes scr).setForcePhase _
      · exact (i.setForcePhase _).forceAbsent ..

theorem Inner.abandonExecuting (i : Inner s t) (d : Desk) : Inner s (t.abandonExecuting d) := by
  unfold State.abandonExecuting; split
  · exact i
  · split
    · exact i
    · exact i
    · exact i
    · split
      · exact i.abandon _
      · exact i
    · split
      · exact i.dropRecall _
      · exact i

theorem Inner.raiseForced (i : Inner s t) (scr : ScreenId) : Inner s (t.raiseForced scr) := by
  unfold State.raiseForced; dsimp only; split
  · exact i
  · refine Inner.listNotice ?_ _ _
    split
    · exact ((i.cancelWaiting ..).abandonExecuting _).answerDesk ..
    · exact i.cancelWaiting ..

theorem Inner.takeUpForceDisconnect (i : Inner s t) (scr : ScreenId) : Inner s (t.takeUpForceDisconnect scr) := by
  unfold State.takeUpForceDisconnect; split
  · exact i.answerCommand ..
  · split
    · exact i.answerCommand ..
    · have k := i.forceSupersedes scr
      dsimp only; split
      · split
        · exact (k.raiseForced scr).answerCommand ..
        · exact ((k.setForcePhase _).retire _).raiseForced scr
      · exact k.setForcePhase _

theorem Inner.beginForce (i : Inner s t) : Inner s t.beginForce := by
  unfold State.beginForce; split
  · exact i.takeUpForceConnect ..
  · exact i.takeUpForceDisconnect ..
  · exact i

theorem Inner.retireBeyond (i : Inner s t) (d : Desk) (n : Nat) : Inner s (t.retireBeyond d n) := by
  unfold State.retireBeyond
  extract_lets gone request force s1 s2
  have k1 : Inner s s1 := i.retireAll _
  have k2 : Inner s s2 := by
    simp only [s2]; split
    · exact k1.answerDesk ..
    · exact k1
  split
  · exact k2.answerCommand ..
  · exact k2

theorem Inner.retireDesk (i : Inner s t) (d : Desk) : Inner s (t.retireDesk d) := by
  unfold State.retireDesk; dsimp only; split
  · exact (i.retireAll _).answerCommand ..
  · exact i.retireAll _

/-! ## Due work -/

theorem Inner.decideFor (i : Inner s t) (a : Admission) (v : Verdict) (h : Option HeadId) :
    Inner s (t.decideFor a v h) := by
  unfold State.decideFor; dsimp only; split
  · exact i
  · exact i.grantRecord _
  · exact i.refuseRecord ..
  · split
    · exact i.grantArm ..
    · exact i
  · split
    · split <;> exact i.armFails ..
    · exact i
  · exact i.grantRevalidation ..
  · split <;> exact i.disarm ..

theorem Inner.decide (i : Inner s t) {a : Admission} {u : State} (h : t.decide a = some u) : Inner s u := by
  unfold State.decide at h
  split at h
  · cases h; exact (i.decideFor ..).endAdmission _
  · split at h
    · cases h
    · cases h; exact (i.decideFor ..).endAdmission _
  · have k := i.runAdmission a.id a.owner a.placements false
    split at h
    · next e => rw [e] at k; cases h; exact k
    · next e => rw [e] at k; cases h; exact (k.decideFor ..).endAdmission _
  · cases h

theorem firstDue_some {α : Type} {f : α → Option State} {l : List α} {u : State} (h : firstDue f l = some u) :
    ∃ a ∈ l, f a = some u := by
  induction l with
  | nil => cases h
  | cons a l ih =>
    unfold firstDue at h
    split at h
    · next e => cases h; exact ⟨a, List.mem_cons_self, e⟩
    · obtain ⟨b, hb, e⟩ := ih h
      exact ⟨b, List.mem_cons_of_mem _ hb, e⟩

theorem Inner.dueRefusal (i : Inner s t) {u : State} (h : t.dueRefusal = some u) : Inner s u := by
  obtain ⟨a, -, e⟩ := firstDue_some h
  exact i.decide e

theorem Inner.refuseFailed (n : Nat) (i : Inner s t) : Inner s (State.refuseFailed n t) := by
  induction n generalizing t with
  | zero => exact i
  | succ n ih =>
    unfold State.refuseFailed
    split
    · exact i
    · next h => exact ih (i.dueRefusal h)

theorem Inner.dueCommit (i : Inner s t) {u : State} (h : t.dueCommit = some u) : Inner s u := by
  unfold State.dueCommit at h
  split at h
  · cases h; exact i.completeCommit _
  · obtain ⟨j, -, rfl⟩ := Option.map_eq_some_iff.1 h
    exact i.beginCommit j

theorem Inner.dueStepOne (i : Inner s t) {u : State} (h : t.dueStepOne = some u) : Inner s u := by
  unfold State.dueStepOne at h
  split at h
  · cases h; exact i.beginForce
  · obtain ⟨d, -, rfl⟩ := Option.map_eq_some_iff.1 h
    exact i.beginRequest d

theorem Inner.dueWork (i : Inner s t) {u : State} (h : t.dueWork = some u) : Inner s u := by
  simp only [State.dueWork, Option.orElse_eq_orElse, Option.orElse_eq_or, Option.or_eq_some_iff] at h
  rcases h with h | ⟨-, h | ⟨-, h | ⟨-, h | ⟨-, h | ⟨-, h | ⟨-, h | ⟨-, h | ⟨-, h⟩⟩⟩⟩⟩⟩⟩⟩
  · exact i.dueRefusal h
  · obtain ⟨j, -, rfl⟩ := Option.map_eq_some_iff.1 h
    exact i.validateAgain j
  · obtain ⟨a, -, e⟩ := firstDue_some h
    exact i.decide e
  · obtain ⟨d, -, rfl⟩ := Option.map_eq_some_iff.1 h
    exact i.promote d
  · exact i.dueStepOne h
  · exact i.dueCommit h
  · exact i.readmitNext h
  · exact i.resumeNext h
  · exact i.walkStep h

theorem Inner.runDue (n : Nat) (i : Inner s t) : Inner s (State.runDue n t) := by
  induction n generalizing t with
  | zero => exact i
  | succ n ih =>
    unfold State.runDue
    split
    · exact i
    · next h => exact ih (i.dueWork h)

theorem Inner.refreshScans (i : Inner s t) : Inner s t.refreshScans := by
  unfold State.refreshScans; dsimp only
  exact (i.setConns (t.conns.map t.scanned) (pairwise_map_handle (f := t.scanned) fun _ => rfl)).markDesks _

/-- The end of a taking. -/
theorem Inner.settle (i : Inner s t) : Inner s t.settle := (i.runDue _).tellTargets.refreshScans

end Sys2Proof.Machine
end

