-- ==== Sys2Proof/Laws/Outer.lean ====
section
/-!
SUPPORT. What every operation on the lines keeps, those that change a link, a receiver or the clock among them: the settings, the
room lock, the saved settings and the commands waiting; frames are only added to those sent, marks are only set, and the
capacities hold.
-/

namespace Sys2Proof.Machine

/-- The part of the state that only the commands for it change. -/
structure Kept where
  roomLock : Option RoomLock
  settings : Settings
  pending : List Instr
  region : Settings
  regionCheck : Option Nat
  settingsGood : Bool
  op : Option StoreOp

/-- The kept part of a state. -/
def State.kept (s : State) : Kept where
  roomLock := s.roomLock
  settings := s.settings
  pending := s.pending
  region := s.store.region
  regionCheck := s.store.regionCheck
  settingsGood := s.store.settingsGood
  op := s.store.op

/-- The kept part of a fixed part. -/
def Fixed.kept (f : Fixed) : Kept where
  roomLock := f.roomLock
  settings := f.settings
  pending := f.pending
  region := f.region
  regionCheck := f.regionCheck
  settingsGood := f.settingsGood
  op := f.op

/-- `t` has come from `s` by work that an event on a line, a timer or a request makes. -/
structure Outer (s t : State) : Prop where
  kept : t.kept = s.kept
  sent : s.sent <+: t.sent
  marks : s.marks.Within t.marks
  bounded : s.Bounded → t.Bounded

variable {s t u : State}

theorem Outer.refl (s : State) : Outer s s := ⟨rfl, List.prefix_rfl, .refl _, id⟩

theorem Outer.trans (h : Outer s t) (k : Outer t u) : Outer s u :=
  ⟨k.kept.trans h.kept, h.sent.trans k.sent, h.marks.trans k.marks, k.bounded ∘ h.bounded⟩

theorem Inner.outer (i : Inner s t) : Outer s t := ⟨congrArg Fixed.kept i.fixed, i.sent, i.marks, i.bounded⟩

/-- Work of the blocks goes on from a state. -/
theorem Outer.inner (o : Outer s t) (i : Inner t u) : Outer s u := o.trans i.outer

theorem Outer.same (o : Outer s t) (hk : u.kept = t.kept) (hs : u.sent = t.sent) (hm : u.marks = t.marks)
    (hi : u.inputs = t.inputs) (hc : u.controls = t.controls) (hn : u.notices = t.notices) (hq : u.conns = t.conns) :
    Outer s u :=
  ⟨hk.trans o.kept, hs ▸ o.sent, hm ▸ o.marks, fun b => (o.bounded b).congr hi hc hn hq⟩

theorem Outer.foldl {α : Type} {f : State → α → State} (h : ∀ t a, Outer s t → Outer s (f t a)) (l : List α)
    (o : Outer s t) : Outer s (l.foldl f t) := by
  induction l generalizing t with
  | nil => exact o
  | cons a l ih => exact ih (h t a o)

theorem Outer.foldlInner {α : Type} {f : State → α → State} (h : ∀ u a, Inner u (f u a)) (l : List α)
    (o : Outer s t) : Outer s (l.foldl f t) := o.foldl (fun u a o => o.inner (h u a)) l

/-! ## Plain updates -/

theorem Outer.reach (o : Outer s t) (due : Time) : Outer s (t.reach due) := o.same rfl rfl rfl rfl rfl rfl rfl

theorem Outer.setDeskLink (o : Outer s t) (d : Desk) (l : DeskLink) : Outer s (t.setDeskLink d l) :=
  o.same rfl rfl rfl rfl rfl rfl rfl

theorem Outer.changeDeskLink (o : Outer s t) (d : Desk) (l : DeskLink) : Outer s (t.changeDeskLink d l) := by
  unfold State.changeDeskLink; dsimp only; split
  · exact (o.setDeskLink d l).inner ((Inner.refl _).markDesk d)
  · exact o.setDeskLink d l

theorem Outer.setSourceLink (o : Outer s t) (x : Source) (l : SourceLink) : Outer s (t.setSourceLink x l) :=
  o.same rfl rfl rfl rfl rfl rfl rfl

theorem Outer.changeSourceLink (o : Outer s t) (x : Source) (l : SourceLink) : Outer s (t.changeSourceLink x l) := by
  unfold State.changeSourceLink; dsimp only; split
  · exact (o.setSourceLink x l).inner ((Inner.refl _).markSource x)
  · exact o.setSourceLink x l

theorem Outer.setHead (o : Outer s t) (h : HeadId) (r : HeadRecord) : Outer s (t.setHead h r) := by
  unfold State.setHead; dsimp only; split
  · exact (o.setSourceLink _ _).inner ((Inner.refl _).markSource _)
  · exact o.setSourceLink _ _

theorem Outer.setTier (o : Outer s t) (h : HeadId) (r : TierRecord) : Outer s (t.setTier h r) := by
  have k : Outer s { t with tiers := t.tiers.set h.source ((t.tiers[h.source]).set h.head r) } :=
    o.same rfl rfl rfl rfl rfl rfl rfl
  unfold State.setTier; dsimp only; split
  · exact k.inner ((Inner.refl _).markSource _)
  · exact k

theorem Outer.setReceiver (o : Outer s t) (l : Line) (r : Receiver) : Outer s (t.setReceiver l r) := by
  unfold State.setReceiver; split <;> exact o.same rfl rfl rfl rfl rfl rfl rfl

theorem Outer.deskFrameEnds (o : Outer s t) (d : Desk) : Outer s (t.deskFrameEnds d) := o.setReceiver (.desk d) .hunting

theorem Outer.sourceFrameEnds (o : Outer s t) (x : Source) : Outer s (t.sourceFrameEnds x) :=
  o.setReceiver (.source x) .hunting

theorem Outer.setInput (o : Outer s t) (x : Source) (p : InputPath)
    (h : (t.input x).Bounded → p.Bounded) : Outer s (t.setInput x p) := by
  refine ⟨o.kept, o.sent, o.marks, fun b => ?_⟩
  have b := o.bounded b
  refine ⟨fun y => ?_, b.claims, b.notices, b.handles⟩
  rw [State.input_setInput]
  split
  · next h' => subst h'; exact h (b.inputs _)
  · exact b.inputs y

/-! ## Source links -/

theorem Outer.sourceFrame (o : Outer s t) (x : Source) : Outer s (t.sourceFrame x) := by
  unfold State.sourceFrame; dsimp only; split
  · exact o
  · exact o.setSourceLink ..
  · exact o.setSourceLink ..

theorem Outer.onSource (o : Outer s t) (x : Source) {f : State → State} (h : ∀ u, Outer s u → Outer s (f u)) :
    Outer s (t.onSource x f) := by
  unfold State.onSource; dsimp only; split
  · exact h _ ((o.sourceFrameEnds x).sourceFrame x)
  · exact o.sourceFrameEnds x

theorem Inner.repostWaiting (i : Inner s t) (h : HeadId) : Inner s (t.repostWaiting h) :=
  i.foldl (fun _ h i => i.postFor h) _

theorem Inner.headLeft (i : Inner s t) (h : HeadId) : Inner s (t.headLeft h) := by
  unfold State.headLeft; dsimp only
  exact (i.foldl (fun _ h i => i.enter h .waiting) _).repostWaiting h

theorem Outer.budgetHeadLeft (o : Outer s t) (h : HeadId) (b : Bool) : Outer s (t.budgetHeadLeft h b) := by
  unfold State.budgetHeadLeft; split
  · exact (o.inner ((Inner.refl _).abandonChange h true)).setTier ..
  · dsimp only; split
    · exact (o.inner ((Inner.refl _).returnHead h)).setTier ..
    · exact o.setTier ..

theorem Outer.headsChange (o : Outer s t) (l : List (HeadId × HeadRecord)) (b : Bool) : Outer s (t.headsChange l b) := by
  unfold State.headsChange; dsimp only
  refine Outer.foldlInner (fun u p => ?_) _ (Outer.inner ?_ ((Inner.account _ (Inner.refl _) _).refuseFailed _))
  · split
    · exact (Inner.refl u).headLeft _
    · exact (Inner.refl u).repostWaiting _
  · exact (o.foldl (fun _ p o => o.setHead p.1 p.2) _).foldl (fun _ h o => o.budgetHeadLeft h b) _

theorem Inner.stagerHeads (i : Inner s t) (l m : List HeadId) : Inner s (t.stagerHeads l m) :=
  (i.foldl (fun _ h i => i.stagerHeadLeft h) l).foldl (fun _ h i => i.stagerHeadMoved h) m

theorem Outer.inputLinkDown (o : Outer s t) (x : Source) : Outer s (t.inputLinkDown x) := by
  have k := o.setInput x { t.input x with queue := [], deferred := none, sending := none, tierSets := [], led := none }
    fun _ => ⟨Nat.zero_le _, by simp, by simp⟩
  unfold State.inputLinkDown; dsimp only
  refine Outer.foldlInner (fun u d => ?_) _ ?_
  · split
    · exact (Inner.refl u).sendDesk ..
    · exact .refl u
  · split
    · exact k.inner ((Inner.refl _).markSource x)
    · exact k

theorem Outer.sourceDown (o : Outer s t) (x : Source) : Outer s (t.sourceDown x) := by
  unfold State.sourceDown; dsimp only
  exact (((o.changeSourceLink ..).headsChange ..).inputLinkDown x).inner ((Inner.refl _).stagerHeads ..)

theorem Inner.nameTiers (i : Inner s t) (x : Source) (p : HeadIx → Bool) : Inner s (t.nameTiers x p) :=
  i.foldl (fun _ h i => i.sendTierSet h _) _

theorem Outer.sourceUp (o : Outer s t) (x : Source) (n : Nat) : Outer s (t.sourceUp x n) := by
  unfold State.sourceUp; dsimp only; split
  · exact (o.changeSourceLink ..).inner
      (((Inner.refl _).nameTiers ..).foldl (fun _ h i => i.stagerHeadBeyond h) _)
  · exact (o.changeSourceLink ..).inner ((Inner.refl _).nameTiers ..)

theorem Outer.changeHeadCount (o : Outer s t) (x : Source) (n : Nat) : Outer s (t.changeHeadCount x n) := by
  unfold State.changeHeadCount; dsimp only; split
  · exact ((o.changeSourceLink ..).headsChange ..).inner
      (((Inner.refl _).stagerHeads ..).foldl (fun _ h i => i.stagerHeadBeyond h) _)
  · exact (o.changeSourceLink ..).inner ((Inner.refl _).nameTiers ..)

theorem Outer.takeSourceDescriptor (o : Outer s t) (x : Source) (p : List Byte) :
    Outer s (t.takeSourceDescriptor x p) := by
  have k := o.sourceFrameEnds x
  unfold State.takeSourceDescriptor; dsimp only; split
  · split
    · exact k
    · split
      · split
        · exact k.sourceFrame x
        · exact (k.sourceFrame x).changeHeadCount ..
      · exact k.sourceUp ..
  · exact k.sourceFrame x

theorem Outer.headBecomes (o : Outer s t) (h : HeadId) (r : HeadRecord) : Outer s (t.headBecomes h r) := by
  have k := o.headsChange [(h, r)] false
  unfold State.headBecomes; dsimp only; split
  · exact k.inner ((Inner.refl _).stagerHeads ..)
  · exact k.inner ((Inner.refl _).stagerHeads ..)

theorem Outer.announce (o : Outer s t) (h : HeadId) (f : Option Format) : Outer s (t.announce h f) := by
  unfold State.announce; split
  · exact o
  · exact o.headBecomes ..
  · exact o.headBecomes ..
  · exact o.headBecomes ..
  · split
    · exact o
    · exact o.headBecomes ..
  · split
    · exact o
    · exact o.headBecomes ..
  · exact o.headBecomes ..
  · exact o.headBecomes ..

theorem Outer.takeLed (o : Outer s t) (x : Source) (b : BitVec 5) : Outer s (t.takeLed x b) := by
  unfold State.takeLed; dsimp only; split
  · exact o
  · refine (o.setInput x { t.input x with led := some b } (·.same rfl rfl)).inner
      (((Inner.refl _).markSource x).foldl (fun u d i => ?_) _)
    split
    · exact i.sendDesk ..
    · exact i

theorem Outer.sourceInitialExpiry (o : Outer s t) (x : Source) : Outer s (t.sourceInitialExpiry x) := by
  unfold State.sourceInitialExpiry; dsimp only; split
  · split
    · exact (o.reach _).changeSourceLink ..
    · exact (o.reach _).sourceDown x
  · exact o

theorem Outer.sourceSilenceExpiry (o : Outer s t) (x : Source) : Outer s (t.sourceSilenceExpiry x) := by
  unfold State.sourceSilenceExpiry; dsimp only; split
  · exact (o.reach _).sourceDown x
  · exact o

theorem Outer.headActivates (o : Outer s t) (h : HeadId) (f : Format) : Outer s (t.headActivates h f) := by
  unfold State.headActivates; dsimp only
  exact ((o.setHead ..).setTier ..).inner (((Inner.account _ (Inner.refl _) _).listReadmit ..).stagerHeadActive h)

theorem Outer.settleExpiry (o : Outer s t) (h : HeadId) : Outer s (t.settleExpiry h) := by
  unfold State.settleExpiry; split
  · dsimp only; split
    · exact (o.reach _).headActivates ..
    · exact (o.reach _).headBecomes ..
  · exact o

theorem Outer.tierChangeExpiry (o : Outer s t) (h : HeadId) : Outer s (t.tierChangeExpiry h) := by
  unfold State.tierChangeExpiry; split
  · exact (o.reach _).inner ((Inner.refl _).changeTimeout h)
  · exact o

theorem Inner.transmitted (i : Inner s t) (x : Source) : Inner s (t.transmitted x) := by
  unfold State.transmitted; dsimp only; split
  · exact i
  · exact ((i.setInput x _ (by rfl) (by exact (·.same rfl rfl))).emit _).kick x

theorem Outer.resetSource (o : Outer s t) (x : Source) : Outer s (t.resetSource x) := by
  unfold State.resetSource; dsimp only; split
  · exact ((o.sourceDown x).changeSourceLink ..).inner ((Inner.refl _).markSource x)
  · exact (o.changeSourceLink ..).inner ((Inner.refl _).markSource x)

/-! ## Fabric -/

theorem Inner.takeOut (i : Inner s t) (h : Handle) : Inner s (t.takeOut h) := by
  unfold State.takeOut; split
  · exact i
  · dsimp only; split
    · exact ((i.withdrawAdmission _).stopLockTimer _).accounted fun _ i => i.removeConn h
    · exact (i.withdrawAdmission _).accounted fun _ i => i.removeConn h

/-- A fold over the state and more, of operations that keep it. -/
theorem foldl_fst {α β : Type} {f : State × β → α → State × β} (h : ∀ r a, Inner s r.1 → Inner s (f r a).1)
    (l : List α) {r : State × β} (i : Inner s r.1) : Inner s (l.foldl f r).1 := by
  induction l generalizing r with
  | nil => exact i
  | cons a l ih => exact ih (h r a i)

theorem Inner.rename (i : Inner s t) (h n : Handle) : Inner s (t.rename h n) := by
  unfold State.rename; dsimp only; split
  · exact i
  · exact ((((i.setConns _ fun p => pairwise_putConn (p.filter _)).setReadmissions _).setResumption _).setAdmissions
      _).setSlots _

theorem Inner.settleHandle (i : Inner s t) (h : Handle) : Inner s (t.settleHandle h) := by
  unfold State.settleHandle; split
  · exact (i.setConn _).rename ..
  · exact i

theorem Inner.routeApplied (i : Inner s t) (l : List (ScreenId × Content)) (scr : ScreenId) : Inner s (t.routeApplied l scr) := by
  unfold State.routeApplied; split
  · split
    · exact i.setConn _
    · exact i
  · exact i

theorem Inner.supersedeAll (i : Inner s t) (l : List (ScreenId × Content)) (scr : ScreenId) : Inner s (t.supersedeAll l scr) := by
  have k := (i.routeApplied l scr).supersede scr
  unfold State.supersedeAll; dsimp only; split
  · exact k
  · exact (k.abandon _).answerCommand ..

theorem Inner.await (i : Inner s t) (j : SlotIx) (h : Handle) : Inner s (t.await j h) := i.setSlot ..

theorem Inner.commitRecord (i : Inner s t) (l : List (ScreenId × Content)) (j : SlotIx) (e : SlotEntry) :
    Inner s (t.commitRecord l j e).1 := by
  have k := i.supersedeAll l e.entry.screen
  unfold State.commitRecord; dsimp only; split
  · exact k
  · split
    · dsimp only; split
      · exact (k.setConn _).await ..
      · exact k.setConn _
    · exact k.takeOut _

theorem Inner.createFor (i : Inner s t) (j : SlotIx) (e : SlotEntry) : Inner s (t.createFor j e) := by
  unfold State.createFor; split
  · dsimp only; split
    · exact ((i.accounted fun _ i => i.createConn _).await ..).startLockTimer _
    · exact (i.accounted fun _ i => i.createConn _).raiseNotice ..
    · split
      · exact (i.accounted fun _ i => i.createConn _).setReadmissions _
      · exact i.accounted fun _ i => i.createConn _
    · exact i.accounted fun _ i => i.createConn _
  · exact i

theorem Inner.commitApplied (i : Inner s t) (j : SlotIx) : Inner s (t.commitApplied j) := by
  unfold State.commitApplied; dsimp only
  refine (i.accounted fun _ i => i.setSlot ..).foldl (fun u e i => ?_) _
  split
  · exact i.postFor _
  · exact i

theorem Inner.noteSalvo (i : Inner s t) (j : SlotIx) (scr : ScreenId) : Inner s (t.noteSalvo j scr) := by
  unfold State.noteSalvo; split
  · exact i
  · exact i.raiseNotice ..

theorem Inner.routeLock (i : Inner s t) (a : ScreenId × Content) : Inner s (t.routeLock a) := by
  unfold State.routeLock; split
  · split
    · dsimp only; split
      · exact (i.setConn _).startLockTimer _
      · exact i.startLockTimer _
    · exact i
  · exact i

theorem Inner.answerReplacement (i : Inner s t) (scr : ScreenId) (a : Content) :
    Inner s (t.answerReplacement scr a) := by
  unfold State.answerReplacement; split
  · exact i
  · next c _ =>
    have k : Inner s (if c.answerTo = some .force then t.raiseNotice c.desk .changed none (some scr.screen) else t) := by
      split
      · exact i.raiseNotice ..
      · exact i
    dsimp only; split
    · exact k
    · exact (k.setConn _).answerDone ..

theorem Inner.answerDisconnects (i : Inner s t) (l : List Desk) (b : Bool) : Inner s (t.answerDisconnects l b) := by
  unfold State.answerDisconnects; dsimp only; split
  · exact (i.foldl (fun _ d i => i.answerDesk ..) l).answerCommand ..
  · exact i.foldl (fun _ d i => i.answerDesk ..) l

/-- The house frame event changes, beside the work of the blocks, the rate that the interval begun is counted with. -/
theorem Outer.frameEvent (o : Outer s t) : Outer s t.frameEvent := by
  have start : Outer s ({ t with frameRate := t.room.houseRate }.applyPending) := o.same rfl rfl rfl rfl rfl rfl rfl
  refine start.inner ?_
  unfold State.frameEvent
  dsimp only
  refine Inner.answerDisconnects ?_ _ _
  refine Inner.foldl (fun u r i => ?_) _ ?_
  · split
    · exact i.answerReplacement ..
    · exact i
  refine Inner.foldl (fun u p i => i.viewReport ..) _ ?_
  refine Inner.foldl (fun u p i => i.noteSalvo ..) _ ?_
  refine Inner.foldl (fun u j i => i.commitApplied j) _ ?_
  refine Inner.foldl (fun u a i => i.routeLock a) _ ?_
  refine Inner.foldl (fun u scr i => ?_) _ ?_
  · have k : Inner ({ t with frameRate := t.room.houseRate }.applyPending)
        (match (t.completing t.toApply).find? (·.screen = scr) with
          | some r => u.settleHandle r.handle
          | none => u) := by
      split
      · exact i.settleHandle _
      · exact i
    split
    · exact k.createFor ..
    · exact k
  refine foldl_fst (fun r ie i => ?_) _ ?_
  · exact i.commitRecord ..
  · exact Inner.foldl (fun u c i => i.takeOut _) _ (.refl _)

end Sys2Proof.Machine
end

