-- ==== Sys2Proof/Laws/Lines.lean ====
section
/-!
SUPPORT. The desk lines, the scans, the timers of the room and the commands of the supervisory line keep what `Outer` says, but
for the commands that set what is kept.
-/

namespace Sys2Proof.Machine

variable {s t u : State}

/-! ## Taking -/

/-- A taking that carries out an operation which keeps it. -/
theorem Outer.take {f : State → State} (h : ∀ u, Outer u (f u)) (e : s.take f = .next t) : Outer s t := by
  unfold State.take at e
  split at e <;> cases e
  · exact (h s).inner (Inner.refl _).settle
  · exact .refl s

theorem Outer.ask {f : State → State} (h : ∀ u, Outer u (f u)) (e : s.ask f = .next t) : Outer s t := by
  unfold State.ask at e
  split at e <;> cases e
  · exact h s
  · exact .refl s

/-! ## Fabric -/

theorem Outer.lockExpiry (o : Outer s t) (scr : ScreenId) : Outer s (t.lockExpiry scr) := by
  unfold State.lockExpiry; split
  · exact o
  · dsimp only; split
    · split
      · exact (o.reach _).inner (((Inner.refl _).stopLockTimer scr).lockFails _)
      · exact (o.reach _).inner ((Inner.refl _).stopLockTimer scr)
    · exact (o.reach _).inner ((Inner.refl _).stopLockTimer scr)

theorem Inner.lockReport (i : Inner s t) (scr : ScreenId) : Inner s (t.lockReport scr) := by
  unfold State.lockReport; split
  · exact i
  · split
    · split
      · exact i.enter ..
      · exact i
    · exact i

theorem Inner.unlockReport (i : Inner s t) (scr : ScreenId) : Inner s (t.unlockReport scr) := by
  unfold State.unlockReport; split
  · exact i
  · split
    · split
      · exact ((i.setConn _).startLockTimer scr).postFor _
      · exact i
    · exact i

/-! ## Desk lines -/

theorem Outer.deskFrame (o : Outer s t) (d : Desk) : Outer s (t.deskFrame d) := by
  unfold State.deskFrame; dsimp only; split
  · exact o
  · exact o
  · exact o.setDeskLink ..
  · exact o.setDeskLink ..

theorem Outer.onDesk (o : Outer s t) (d : Desk) {f : State → State} (h : ∀ u, Inner u (f u)) :
    Outer s (t.onDesk d f) := by
  unfold State.onDesk; dsimp only; split
  · exact ((o.deskFrameEnds d).deskFrame d).inner (h _)
  · exact o.deskFrameEnds d

theorem Outer.deskReturns (o : Outer s t) (d : Desk) (n : Nat) : Outer s (t.deskReturns d n) := by
  unfold State.deskReturns; dsimp only
  exact (o.changeDeskLink ..).inner ((((Inner.refl _).retireBeyond ..).listReadmit ..).stagerScreens ..)

theorem Outer.changeScreenCount (o : Outer s t) (d : Desk) (n : Nat) : Outer s (t.changeScreenCount d n) := by
  unfold State.changeScreenCount; dsimp only; split
  · exact (o.changeDeskLink ..).inner (((Inner.refl _).retireBeyond ..).stagerScreens ..)
  · exact o.changeDeskLink ..

theorem Outer.takeDeskDescriptor (o : Outer s t) (d : Desk) (p : List Byte) : Outer s (t.takeDeskDescriptor d p) := by
  have k := o.deskFrameEnds d
  unfold State.takeDeskDescriptor; dsimp only; split
  · split
    · exact k
    · split
      · split
        · exact k.deskFrame d
        · exact (k.deskFrame d).changeScreenCount ..
      · exact k.deskReturns ..
  · exact k.deskFrame d

theorem Inner.deskLeaves (i : Inner s t) (d : Desk) : Inner s (t.deskLeaves d) := by
  unfold State.deskLeaves; dsimp only
  refine Inner.stagerDeskLost (Inner.foldl (fun u h i => (i.enter ..).unlistReadmit h) _ ?_) d
  exact (((i.abandonExecuting d).setStack ..).setNotices d [] fun _ => Nat.zero_le _).endDeskRelations d

theorem Outer.deskDown (o : Outer s t) (d : Desk) : Outer s (t.deskDown d) := by
  unfold State.deskDown; dsimp only
  exact (o.changeDeskLink ..).inner ((((Inner.refl _).retireDesk d).endDeskRelations d).stagerDeskDown d)

theorem Outer.deskLost (o : Outer s t) (d : Desk) : Outer s (t.deskLost d) := by
  have k := (o.changeDeskLink d { t.deskLink d with
    link := .lost, initialTimer := none, silenceTimer := none, frameSince := false }).inner
      ((Inner.refl _).deskLeaves d)
  unfold State.deskLost; dsimp only; split
  · exact k.deskDown d
  · exact k.setDeskLink ..

theorem Outer.deskInitialExpiry (o : Outer s t) (d : Desk) : Outer s (t.deskInitialExpiry d) := by
  unfold State.deskInitialExpiry; dsimp only; split
  · split
    · exact (o.reach _).changeDeskLink ..
    · exact (o.reach _).deskLost d
  · exact o

theorem Outer.deskSilenceExpiry (o : Outer s t) (d : Desk) : Outer s (t.deskSilenceExpiry d) := by
  unfold State.deskSilenceExpiry; dsimp only; split
  · exact (o.reach _).deskLost d
  · exact o

theorem Outer.graceExpiry (o : Outer s t) (d : Desk) : Outer s (t.graceExpiry d) := by
  unfold State.graceExpiry; split
  · exact (o.reach _).deskDown d
  · exact o

theorem Outer.resetDesk (o : Outer s t) (d : Desk) : Outer s (t.resetDesk d) := by
  unfold State.resetDesk; dsimp only
  refine (Outer.changeDeskLink (Outer.deskDown ?_ d) ..).inner ((Inner.refl _).markDesk d)
  split
  · exact (o.changeDeskLink ..).inner ((Inner.refl _).deskLeaves d)
  · exact o

/-! ## Desk requests -/

theorem Inner.wrongLength (i : Inner s t) (d : Desk) (k : Byte) (p : List Byte) : Inner s (t.wrongLength d k p) :=
  i.respond ..

theorem Outer.takeRequest (o : Outer s t) (d : Desk) (k : Byte) (p : List Byte) (r : Option Request) :
    Outer s (t.takeRequest d k p r) := by
  refine o.onDesk d fun u => ?_
  split
  · exact (Inner.refl u).intake ..
  · exact (Inner.refl u).wrongLength ..

theorem Inner.noticeAck (i : Inner s t) (d : Desk) (n : Byte) : Inner s (t.noticeAck d n) := by
  unfold State.noticeAck; split
  · exact i.respond ..
  · next a rest h =>
    have k := (i.setNotices d rest fun q => by rw [h, List.length_cons] at q; omega).respond d n
      ⟨.done, Kind.noticeAck, .noDetail, [byte rest.length]⟩
    dsimp only; split
    · exact k
    · exact k.sendDesk ..

theorem Inner.queryScreen (i : Inner s t) (d : Desk) (n b : Byte) : Inner s (t.queryScreen d n b) := by
  unfold State.queryScreen; split <;> exact i.respond ..

theorem Inner.querySource (i : Inner s t) (d : Desk) (n b : Byte) : Inner s (t.querySource d n b) := by
  unfold State.querySource; split
  · exact i.respond ..
  · split <;> exact i.respond ..

/-! ## Scans and timers of the room -/

theorem Inner.scanStep (i : Inner s t) (c : Conn) (k : Scan) (n : Nat) (h : HeadId) : Inner s (t.scanStep c k n h) := by
  have q := (((i.unlistReadmit c.handle).stopLockTimer c.screen).accounted (f := fun t =>
    (t.setConn { c with
      head := h, state := .switching, step := some .switch, auto := some .step,
      scan := some { k with index := n, timer := .frozen 0 } }).followBudget c.handle .switching)
    fun _ i => (i.setConn _).followBudget ..).postFor c.handle
  unfold State.scanStep; dsimp only; split
  · exact q
  · exact q.viewReport ..

theorem Outer.dwellExpires (o : Outer s t) (scr : ScreenId) : Outer s (t.dwellExpires scr) := by
  unfold State.dwellExpires; split
  · exact o
  · split
    · exact o
    · split
      · dsimp only; split
        · split
          · exact (o.reach _).inner ((Inner.refl _).scanStep ..)
          · exact (o.reach _).inner ((Inner.refl _).restartDwell _)
        · exact (o.reach _).inner ((Inner.refl _).restartDwell _)
      · exact o

theorem Outer.holdExpiry (o : Outer s t) (j : SlotIx) : Outer s (t.holdExpiry j) := by
  unfold State.holdExpiry; split
  · split
    · exact (o.reach _).inner ((Inner.refl _).disarm ..)
    · exact o
  · exact o

theorem Outer.restorationExpiry (o : Outer s t) : Outer s t.restorationExpiry := by
  unfold State.restorationExpiry; split
  · exact (o.reach _).inner (Inner.refl _).beginWalk
  · exact o

theorem Outer.controlTimeout (o : Outer s t) (x : Source) : Outer s (t.controlTimeout x) := by
  unfold State.controlTimeout; split
  · exact (o.reach _).inner ((Inner.refl _).idleTest x)
  · exact o

/-! ## Supervisory line -/

theorem Outer.onSupervisor (o : Outer s t) (k : Byte) {f : State → State} (h : ∀ u, Outer u (f u)) :
    Outer s (t.onSupervisor k f) := by
  unfold State.onSupervisor; dsimp only; split
  · exact (o.setReceiver ..).inner ((Inner.refl _).reply ..)
  · exact (o.setReceiver ..).trans (h _)

theorem Outer.onCommand {k : Byte} {f : State → State} (h : ∀ u, Outer u (f u)) (e : s.onCommand k f = .next t) :
    Outer s t := Outer.take (fun u => (Outer.refl u).onSupervisor k h) e

theorem Outer.onQuery {k : Byte} {f : State → State} (h : ∀ u, Outer u (f u)) (e : s.onQuery k f = .next t) :
    Outer s t := Outer.ask (fun u => (Outer.refl u).onSupervisor k h) e

theorem Inner.refuse (i : Inner s t) (k : Byte) (d : Detail) : Inner s (t.refuse k d) := i.reply ..

theorem Inner.done (i : Inner s t) (k : Byte) (l : List Byte) : Inner s (t.done k l) := i.reply ..

theorem Inner.startForce (i : Inner s t) (c : Command) : Inner s (t.startForce c) := (i.setCommand _).beginForce

theorem Inner.afterReset (i : Inner s t) : Inner s t.afterReset := i.settle.done ..

theorem Outer.portReset (o : Outer s t) (k n : Byte) : Outer s (t.portReset k n) := by
  unfold State.portReset; split
  · exact (o.resetDesk _).inner (Inner.refl _).afterReset
  · exact (o.resetSource _).inner (Inner.refl _).afterReset
  · exact o.inner ((Inner.refl _).refuse ..)

theorem Inner.budgetQuery (i : Inner s t) (a b : Byte) : Inner s (t.budgetQuery a b) := by
  unfold State.budgetQuery; split
  · exact i.done ..
  · exact i.done ..
  · exact i.done ..
  · exact i.refuse ..

theorem Inner.onSlot (i : Inner s t) (k : Byte) (p : List Byte) {f : State → SlotIx → State}
    (h : ∀ u j, Inner u (f u j)) : Inner s (t.onSlot k p f) := by
  unfold State.onSlot; split
  · split
    · exact i.trans (h ..)
    · exact i.refuse ..
  · exact i.refuse ..

theorem Inner.loadSlot (i : Inner s t) (k : Byte) (j : SlotIx) (es : List StageEntry) : Inner s (t.loadSlot k j es) := by
  unfold State.loadSlot; split
  · exact (i.setSlot ..).done ..
  · exact i.refuse ..

theorem Inner.presetToStage (i : Inner s t) (p : PresetIx) (j : SlotIx) : Inner s (t.presetToStage p j) := by
  unfold State.presetToStage; split
  · exact i.refuse ..
  · have k := i.readPreset p
    dsimp only; split
    · exact k.refuse ..
    · exact k.refuse ..
    · exact k.loadSlot ..

end Sys2Proof.Machine
end

