-- ==== Sys2Proof/Laws/Commands.lean ====
section
/-!
SUPPORT. One lemma per meaning: what it keeps, whatever its operands and the state.  The commands that set the settings, the
room lock, the saved settings or the store's operation, CHANGES, and the commands of power and restart are not among them.
-/

namespace Sys2Proof.Machine

variable {s t : State}

theorem execInterByteGapExpiry_outer (e : execInterByteGapExpiry s = .next t) :
    Outer s t :=
  Outer.ask (fun u => by
    split
    · exact ((Outer.refl u).reach _).setReceiver ..
    · exact .refl u) e

theorem execSourceDescriptor_outer (x : Source) (p : List Byte) (e : execSourceDescriptor x p s = .next t) :
    Outer s t :=
  Outer.take (fun u => (Outer.refl u).takeSourceDescriptor ..) e

theorem execSourceHeartbeat_outer (x : Source) (p : List Byte) (e : execSourceHeartbeat x p s = .next t) :
    Outer s t :=
  Outer.take (fun u => (Outer.refl u).onSource x fun _ o => o) e

theorem execSourceUnknownKind_outer (x : Source) (k : Byte) (p : List Byte) (e : execSourceUnknownKind x k p s = .next t) :
    Outer s t :=
  Outer.take (fun u => (Outer.refl u).onSource x fun _ o => o) e

theorem execHeadFormat_outer (x : Source) (p : List Byte) (e : execHeadFormat x p s = .next t) :
    Outer s t :=
  Outer.take (fun u => (Outer.refl u).onSource x fun v o => by
    split
    · split
      · exact o.announce ..
      · exact o
    · exact o) e

theorem execTierAck_outer (x : Source) (p : List Byte) (e : execTierAck x p s = .next t) :
    Outer s t :=
  Outer.take (fun u => (Outer.refl u).onSource x fun v o => by
    split
    · split
      · split
        · exact o.inner ((Inner.refl v).acknowledge ..)
        · exact o
      · exact o
    · exact o) e

theorem execLedState_outer (x : Source) (p : List Byte) (e : execLedState x p s = .next t) :
    Outer s t :=
  Outer.take (fun u => (Outer.refl u).onSource x fun v o => by
    split
    · exact o.takeLed ..
    · exact o) e

theorem execSourceInitialTimerExpiry_outer (x : Source) (e : execSourceInitialTimerExpiry x s = .next t) :
    Outer s t :=
  Outer.take (fun u => (Outer.refl u).sourceInitialExpiry x) e

theorem execSourceSilenceTimerExpiry_outer (x : Source) (e : execSourceSilenceTimerExpiry x s = .next t) :
    Outer s t :=
  Outer.take (fun u => (Outer.refl u).sourceSilenceExpiry x) e

theorem execSourceLinkLoss_outer (x : Source) (e : execSourceLinkLoss x s = .next t) :
    Outer s t :=
  Outer.take (fun u => by
    dsimp only; split
    · exact ((Outer.refl u).sourceFrameEnds x).sourceDown x
    · exact (Outer.refl u).sourceFrameEnds x) e

theorem execSettleTimerExpiry_outer (x : Source) (k : HeadIx) (e : execSettleTimerExpiry x k s = .next t) :
    Outer s t :=
  Outer.take (fun u => (Outer.refl u).settleExpiry _) e

theorem execTierChangeTimerExpiry_outer (x : Source) (k : HeadIx) (e : execTierChangeTimerExpiry x k s = .next t) :
    Outer s t :=
  Outer.take (fun u => (Outer.refl u).tierChangeExpiry _) e

theorem execTransmitterComplete_outer (x : Source) (e : execTransmitterComplete x s = .next t) :
    Outer s t :=
  Outer.take (fun u => ((Inner.refl u).transmitted x).outer) e

theorem execDeskDescriptor_outer (d : Desk) (p : List Byte) (e : execDeskDescriptor d p s = .next t) :
    Outer s t :=
  Outer.take (fun u => (Outer.refl u).takeDeskDescriptor ..) e

theorem execDeskHeartbeat_outer (d : Desk) (p : List Byte) (e : execDeskHeartbeat d p s = .next t) :
    Outer s t :=
  Outer.take (fun u => (Outer.refl u).onDesk d fun v => .refl v) e

theorem execLocked_outer (d : Desk) (p : List Byte) (e : execLocked d p s = .next t) :
    Outer s t :=
  Outer.take (fun u => (Outer.refl u).onDesk d fun v => by
    split
    · split
      · exact (Inner.refl v).lockReport _
      · exact .refl v
    · exact .refl v) e

theorem execUnlocked_outer (d : Desk) (p : List Byte) (e : execUnlocked d p s = .next t) :
    Outer s t :=
  Outer.take (fun u => (Outer.refl u).onDesk d fun v => by
    split
    · split
      · exact (Inner.refl v).unlockReport _
      · exact .refl v
    · exact .refl v) e

theorem execKeys_outer (d : Desk) (p : List Byte) (e : execKeys d p s = .next t) :
    Outer s t :=
  Outer.take (fun u => (Outer.refl u).onDesk d fun v => by
    split
    · exact (Inner.refl v).takeReport _ trivial
    · exact .refl v) e

/-- The working form of a POINTER report is in range (R105, R108). -/
theorem pointerBody_legal (dx dy wheel : Int) (b : BitVec 5) : (pointerBody dx dy wheel b).Legal :=
  ⟨saturate_legal (by decide), saturate_legal (by decide), saturate_legal (by decide)⟩

theorem execPointer_outer (d : Desk) (p : List Byte) (e : execPointer d p s = .next t) :
    Outer s t :=
  Outer.take (fun u => (Outer.refl u).onDesk d fun v => by
    split
    · exact (Inner.refl v).takeReport _ (pointerBody_legal ..)
    · exact .refl v) e

theorem execDeskUnknownKind_outer (d : Desk) (k : Byte) (p : List Byte) (e : execDeskUnknownKind d k p s = .next t) :
    Outer s t :=
  Outer.take (fun u => (Outer.refl u).onDesk d fun v => (Inner.refl v).respond ..) e

theorem execConnect_outer (d : Desk) (p : List Byte) (e : execConnect d p s = .next t) :
    Outer s t :=
  Outer.take (fun u => (Outer.refl u).takeRequest ..) e

theorem execDisconnect_outer (d : Desk) (p : List Byte) (e : execDisconnect d p s = .next t) :
    Outer s t :=
  Outer.take (fun u => (Outer.refl u).takeRequest ..) e

theorem execScan_outer (d : Desk) (p : List Byte) (e : execScan d p s = .next t) :
    Outer s t :=
  Outer.take (fun u => (Outer.refl u).takeRequest ..) e

theorem execRecall_outer (d : Desk) (p : List Byte) (e : execRecall d p s = .next t) :
    Outer s t :=
  Outer.take (fun u => (Outer.refl u).takeRequest ..) e

theorem execTake_outer (d : Desk) (p : List Byte) (e : execTake d p s = .next t) :
    Outer s t :=
  Outer.take (fun u => (Outer.refl u).takeRequest ..) e

theorem execShare_outer (d : Desk) (p : List Byte) (e : execShare d p s = .next t) :
    Outer s t :=
  Outer.take (fun u => (Outer.refl u).takeRequest ..) e

theorem execRelease_outer (d : Desk) (p : List Byte) (e : execRelease d p s = .next t) :
    Outer s t :=
  Outer.take (fun u => (Outer.refl u).takeRequest ..) e

theorem execWithdraw_outer (d : Desk) (p : List Byte) (e : execWithdraw d p s = .next t) :
    Outer s t :=
  Outer.take (fun u => (Outer.refl u).takeRequest ..) e

theorem execNoticeAck_outer (d : Desk) (p : List Byte) (e : execNoticeAck d p s = .next t) :
    Outer s t :=
  Outer.ask (fun u => (Outer.refl u).onDesk d fun v => by
    split
    · exact (Inner.refl v).noticeAck ..
    · exact (Inner.refl v).wrongLength ..) e

theorem execQueryScreen_outer (d : Desk) (p : List Byte) (e : execQueryScreen d p s = .next t) :
    Outer s t :=
  Outer.ask (fun u => (Outer.refl u).onDesk d fun v => by
    split
    · exact (Inner.refl v).queryScreen ..
    · exact (Inner.refl v).wrongLength ..) e

theorem execQuerySource_outer (d : Desk) (p : List Byte) (e : execQuerySource d p s = .next t) :
    Outer s t :=
  Outer.ask (fun u => (Outer.refl u).onDesk d fun v => by
    split
    · exact (Inner.refl v).querySource ..
    · exact (Inner.refl v).wrongLength ..) e

theorem execQueryDesk_outer (d : Desk) (p : List Byte) (e : execQueryDesk d p s = .next t) :
    Outer s t :=
  Outer.ask (fun u => (Outer.refl u).onDesk d fun v => by
    split
    · exact (Inner.refl v).respond ..
    · exact (Inner.refl v).wrongLength ..) e

theorem execDeskInitialTimerExpiry_outer (d : Desk) (e : execDeskInitialTimerExpiry d s = .next t) :
    Outer s t :=
  Outer.take (fun u => (Outer.refl u).deskInitialExpiry d) e

theorem execDeskSilenceTimerExpiry_outer (d : Desk) (e : execDeskSilenceTimerExpiry d s = .next t) :
    Outer s t :=
  Outer.take (fun u => (Outer.refl u).deskSilenceExpiry d) e

theorem execDeskLinkLoss_outer (d : Desk) (e : execDeskLinkLoss d s = .next t) :
    Outer s t :=
  Outer.take (fun u => by
    dsimp only; split
    · exact ((Outer.refl u).deskFrameEnds d).deskLost d
    · exact (Outer.refl u).deskFrameEnds d) e

theorem execGraceTimerExpiry_outer (d : Desk) (e : execGraceTimerExpiry d s = .next t) :
    Outer s t :=
  Outer.take (fun u => (Outer.refl u).graceExpiry d) e

theorem execLockTimerExpiry_outer (d : Desk) (k : ScreenIx) (e : execLockTimerExpiry d k s = .next t) :
    Outer s t :=
  Outer.take (fun u => (Outer.refl u).lockExpiry _) e

theorem execHouseFrameEvent_outer (e : execHouseFrameEvent s = .next t) :
    Outer s t :=
  Outer.take (fun u => (Outer.refl u).frameEvent) e

theorem execControlTimeoutReached_outer (x : Source) (e : execControlTimeoutReached x s = .next t) :
    Outer s t :=
  Outer.take (fun u => (Outer.refl u).controlTimeout x) e

theorem execRestorationDelayExpiry_outer (e : execRestorationDelayExpiry s = .next t) :
    Outer s t :=
  Outer.take (fun u => (Outer.refl u).restorationExpiry) e

theorem execDwellExpiry_outer (d : Desk) (k : ScreenIx) (e : execDwellExpiry d k s = .next t) :
    Outer s t :=
  Outer.take (fun u => (Outer.refl u).dwellExpires _) e

theorem execArmHoldTimerExpiry_outer (i : SlotIx) (e : execArmHoldTimerExpiry i s = .next t) :
    Outer s t :=
  Outer.take (fun u => (Outer.refl u).holdExpiry i) e

theorem execBusy_outer (k : Byte) (p : List Byte) (e : execBusy k p s = .next t) :
    Outer s t :=
  Outer.onCommand (fun u => .refl u) e

theorem execSupervisoryUnknownKind_outer (k : Byte) (p : List Byte) (e : execSupervisoryUnknownKind k p s = .next t) :
    Outer s t :=
  Outer.onCommand (fun u => ((Inner.refl u).reply ..).outer) e

theorem execPing_outer (p : List Byte) (e : execPing p s = .next t) :
    Outer s t :=
  Outer.onCommand (fun u => by
    split
    · exact ((Inner.refl u).done ..).outer
    · exact ((Inner.refl u).refuse ..).outer) e

theorem execVersion_outer (p : List Byte) (e : execVersion p s = .next t) :
    Outer s t :=
  Outer.onCommand (fun u => by
    split
    · exact ((Inner.refl u).done ..).outer
    · exact ((Inner.refl u).refuse ..).outer) e

theorem execForceConnect_outer (p : List Byte) (e : execForceConnect p s = .next t) :
    Outer s t :=
  Outer.onCommand (fun u => by
    split
    · split
      · exact ((Inner.refl u).startForce _).outer
      · exact ((Inner.refl u).refuse ..).outer
    · exact ((Inner.refl u).refuse ..).outer) e

theorem execForceDisconnect_outer (p : List Byte) (e : execForceDisconnect p s = .next t) :
    Outer s t :=
  Outer.onCommand (fun u => by
    split
    · split
      · exact ((Inner.refl u).startForce _).outer
      · exact ((Inner.refl u).refuse ..).outer
    · exact ((Inner.refl u).refuse ..).outer) e

theorem execForceRelease_outer (p : List Byte) (e : execForceRelease p s = .next t) :
    Outer s t :=
  Outer.onCommand (fun u => by
    split
    · split
      · next x _ =>
        exact ((Inner.arbitrate (r := ((u.doForceRelease x).1, (u.doForceRelease x).2.1))
          ((Inner.refl u).doForceRelease x)).reply ..).outer
      · exact ((Inner.refl u).refuse ..).outer
    · exact ((Inner.refl u).refuse ..).outer) e

theorem execPortReset_outer (p : List Byte) (e : execPortReset p s = .next t) :
    Outer s t :=
  Outer.onCommand (fun u => by
    split
    · exact (Outer.refl u).portReset ..
    · exact ((Inner.refl u).refuse ..).outer) e

theorem execListConnections_outer (p : List Byte) (e : execListConnections p s = .next t) :
    Outer s t :=
  Outer.onQuery (fun u => by
    split
    · split
      · exact ((Inner.refl u).refuse ..).outer
      · exact ((Inner.refl u).done ..).outer
    · exact ((Inner.refl u).refuse ..).outer) e

theorem execDeskStatus_outer (p : List Byte) (e : execDeskStatus p s = .next t) :
    Outer s t :=
  Outer.onQuery (fun u => by
    split
    · split
      · exact ((Inner.refl u).done ..).outer
      · exact ((Inner.refl u).refuse ..).outer
    · exact ((Inner.refl u).refuse ..).outer) e

theorem execSourceStatus_outer (p : List Byte) (e : execSourceStatus p s = .next t) :
    Outer s t :=
  Outer.onQuery (fun u => by
    split
    · split
      · exact ((Inner.refl u).done ..).outer
      · exact ((Inner.refl u).refuse ..).outer
    · exact ((Inner.refl u).refuse ..).outer) e

theorem execBudget_outer (p : List Byte) (e : execBudget p s = .next t) :
    Outer s t :=
  Outer.onQuery (fun u => by
    split
    · exact ((Inner.refl u).budgetQuery ..).outer
    · exact ((Inner.refl u).refuse ..).outer) e

theorem execPresetBlank_outer (p : List Byte) (e : execPresetBlank p s = .next t) :
    Outer s t :=
  Outer.onQuery (fun u => by
    split
    · dsimp only; split
      · split
        · exact ((Inner.refl u).done ..).outer
        · exact ((Inner.refl u).done ..).outer
      · exact ((Inner.refl u).refuse ..).outer
    · exact ((Inner.refl u).refuse ..).outer) e

theorem execStageLoad_outer (p : List Byte) (e : execStageLoad p s = .next t) :
    Outer s t :=
  Outer.onCommand (fun u => by
    split
    · split
      · exact ((Inner.refl u).loadSlot ..).outer
      · exact ((Inner.refl u).refuse ..).outer
    · exact ((Inner.refl u).refuse ..).outer) e

theorem execPresetToStage_outer (p : List Byte) (e : execPresetToStage p s = .next t) :
    Outer s t :=
  Outer.onCommand (fun u => by
    split
    · split
      · exact ((Inner.refl u).presetToStage ..).outer
      · exact ((Inner.refl u).refuse ..).outer
    · exact ((Inner.refl u).refuse ..).outer) e

theorem execStageClear_outer (p : List Byte) (e : execStageClear p s = .next t) :
    Outer s t :=
  Outer.onCommand (fun u => ((Inner.refl u).onSlot _ p fun v j => by
    split
    · exact ((Inner.refl v).setSlot ..).done ..
    · exact (Inner.refl v).refuse ..).outer) e

theorem execArm_outer (p : List Byte) (e : execArm p s = .next t) :
    Outer s t :=
  Outer.onCommand (fun u => ((Inner.refl u).onSlot _ p fun v j => by
    split
    · exact ((Inner.refl v).setCommand _).startArming ..
    · exact (Inner.refl v).refuse ..).outer) e

theorem execCommit_outer (p : List Byte) (e : execCommit p s = .next t) :
    Outer s t :=
  Outer.onCommand (fun u => ((Inner.refl u).onSlot _ p fun v j => by
    dsimp only; split
    · split
      · exact ((Inner.refl v).setCommand _).setSlot ..
      · exact ((Inner.refl v).setCommand _).beginCommit j
    · exact (Inner.refl v).refuse ..).outer) e

theorem execDisarm_outer (p : List Byte) (e : execDisarm p s = .next t) :
    Outer s t :=
  Outer.onCommand (fun u => ((Inner.refl u).onSlot _ p fun v j => by
    split
    · exact ((Inner.refl v).disarm ..).done ..
    · exact (Inner.refl v).refuse ..).outer) e

/-! ## Frames handed on from their bytes (R193, R194) -/

/-- One case of a decoder and of a hand-over agree. -/
theorem handOver_case {c : Prop} [Decidable c] {a b : Host.Outcome State Fault Refusal} {i j : Instr} {s : State}
    (h : a = exec i s) (k : b = exec j s) : (if c then a else b) = exec (if c then i else j) s := by
  split
  · exact h
  · exact k

theorem handSource_eq_exec (x : Source) (k : Byte) (p : List Byte) (s : State) :
    handSource x k p s = exec (dispatchSource x k p) s := by
  unfold handSource dispatchSource
  iterate 5 refine handOver_case rfl ?_
  rfl

theorem handDesk_eq_exec (d : Desk) (k : Byte) (p : List Byte) (s : State) :
    handDesk d k p s = exec (dispatchDesk d k p) s := by
  unfold handDesk dispatchDesk
  iterate 18 refine handOver_case rfl ?_
  rfl

theorem handSupervisory_eq_exec (k : Byte) (p : List Byte) (s : State) :
    handSupervisory k p s = exec (dispatchSupervisory k p) s := by
  unfold handSupervisory dispatchSupervisory
  iterate 29 refine handOver_case rfl ?_
  rfl

/-- A frame handed on is the command that the decoder reads from it. -/
theorem handOn_eq_exec (l : Line) (k : Byte) (p : List Byte) (s : State) :
    handOn l k p s = exec (dispatch l s.command.isSome k p) s := by
  cases l
  · exact handOver_case rfl (handSupervisory_eq_exec k p s)
  · exact handDesk_eq_exec _ k p s
  · exact handSource_eq_exec _ k p s

/-- One byte moves its line's receiver, and runs the command of the frame it completes, if it completes one. -/
theorem State.takeByte_cases (s : State) (l : Line) (b : Byte) :
    s.takeByte l b = s.setReceiver l ((s.receiver l).feed b).1
      ∨ ∃ k p, ((s.receiver l).feed b).2 = some (k, p)
        ∧ handOn l k p (s.setReceiver l ((s.receiver l).feed b).1) = .next (s.takeByte l b) := by
  unfold State.takeByte; dsimp only
  split
  · exact .inl rfl
  · next f q =>
    split
    · next t h => exact .inr ⟨f.1, f.2, q, h⟩
    · exact .inl rfl
    · exact .inl rfl

/-- What moving a receiver and every frame handed on keep, bytes that reach a receiver keep. -/
theorem State.takeBytes_rel {R : State → State → Prop} (refl : ∀ u, R u u) (trans : ∀ {u v w}, R u v → R v w → R u w)
    (move : ∀ u l r, R u (u.setReceiver l r)) (hand : ∀ u l k p t, handOn l k p u = .next t → R u t)
    (s : State) (l : Line) (bytes : List Byte) : R s (s.takeBytes l bytes) := by
  unfold State.takeBytes
  induction bytes generalizing s with
  | nil => exact refl s
  | cons b rest ih =>
    refine trans (v := s.takeByte l b) ?_ (ih _)
    rcases s.takeByte_cases l b with e | ⟨k, p, -, e⟩
    · rw [e]; exact move ..
    · exact trans (move ..) (hand _ _ _ _ _ e)

end Sys2Proof.Machine
end

