-- ==== Sys2Proof/Laws/Rest.lean ====
section
/-!
SUPPORT. In a calm room nothing is due: a taking ends with its own effect, and the dwell timers brought in line.
-/

namespace Sys2Proof.Machine

variable {s t : State}

theorem State.runDue_of_none (h : s.dueWork = none) (n : Nat) : State.runDue n s = s := by
  cases n with
  | zero => rfl
  | succ n => simp only [State.runDue, h]

/-- With no input target moved, no desk is told of one. -/
theorem State.tellTargets_of_nil (h : s.movedTargets = []) : s.tellTargets = s := by
  unfold State.tellTargets
  rw [h]
  simp only [List.foldl_nil]
  rw [← h]

theorem State.settle_of_none (h : s.dueWork = none) (r : s.movedTargets = []) : s.settle = s.refreshScans := by
  rw [State.settle, State.runDue_of_none h, State.tellTargets_of_nil r]

theorem State.runDue_of_some (h : s.dueWork = some t) (n : Nat) : State.runDue (n + 1) s = State.runDue n t := by
  simp only [State.runDue, h]

/-- The parts of a calm room, as facts. -/
structure Calm (s : State) : Prop where
  powered : s.powered = true
  admissions : s.admissions = []
  readmissions : s.readmissions = []
  reports : s.reports = []
  movedTargets : s.movedTargets = []
  command : s.forceWaitOver = false
  list : s.resumption.list = []
  running : s.resumption.running = false
  due : s.resumption.due = false
  walk : ∀ w, s.restoration ≠ .walking w
  delay : s.room.restorationDelay ≠ 0
  slots : ∀ i, (s.slot i).calm = true
  stack : ∀ d, (s.stack d).calm = true
  conns : ∀ c ∈ s.conns, c.auto = none ∧ c.replaces = none

theorem Calm.of (h : s.calm = true) : Calm s := by
  simp only [State.calm, Bool.and_eq_true, List.all_eq_true, List.isEmpty_iff, Bool.not_eq_true', Option.isNone_iff_eq_none,
    decide_eq_true_eq, ne_eq] at h
  obtain ⟨⟨⟨⟨⟨⟨⟨⟨⟨⟨⟨⟨⟨h1, h2⟩, h3⟩, h4⟩, h0⟩, h5⟩, h6⟩, h7⟩, h8⟩, h9⟩, h10⟩, h11⟩, h12⟩, h13⟩ := h
  refine ⟨h1, h2, h3, h4, h0, ?_, h6, h7, h8, ?_, h10, fun i => h11 i (List.mem_finRange i), fun d => h12 d (List.mem_finRange d), h13⟩
  · unfold State.forceWaitOver
    split
    · next q => rw [q] at h5; cases h5
    · next q => rw [q] at h5; cases h5
    · rfl
  · intro w e
    rw [e] at h9
    cases h9

/-- What makes nothing due: the conditions that each piece of due work looks at. -/
theorem State.dueWork_eq_none (touched : ∀ i, (s.slot i).touched = false) (admissions : s.admissions = [])
    (begun : ∀ d, (s.stack d).beginning = false) (desk : ∀ d, s.deskWaitOver d = false) (force : s.forceWaitOver = false)
    (committing : ∀ i, (s.slot i).state = .committing → (s.slot i).stage = some .afterEvent → (s.slot i).awaiting ≠ [])
    (commitDue : ∀ i, (s.slot i).commitDue = false) (readmissions : s.readmissions = [])
    (running : s.resumption.running = false) (due : s.resumption.due = false) (walk : ∀ w, s.restoration ≠ .walking w) :
    s.dueWork = none := by
  have hslot : s.dueSlot = none := by
    simp only [State.dueSlot, Option.map_eq_none_iff, List.find?_eq_none]
    intro i _; simp [touched i]
  have href : s.dueRefusal = none := by simp only [State.dueRefusal, admissions, List.filter_nil, firstDue]
  have hadm : s.dueAdmission = none := by simp only [State.dueAdmission, admissions, firstDue]
  have hreq : s.dueRequest = none := by
    simp only [State.dueRequest, Option.map_eq_none_iff, List.find?_eq_none]
    intro d _; simp [begun d]
  have hstep : s.dueStepOne = none := by
    unfold State.dueStepOne
    rw [if_neg (by simp [force])]
    simp only [Option.map_eq_none_iff, List.find?_eq_none]
    intro d _; simp [desk d]
  have hcommit : s.dueCommit = none := by
    unfold State.dueCommit
    split
    · next i q =>
      have q := List.find?_some q
      simp only [decide_eq_true_eq] at q
      exact absurd q.2.2 (committing i q.1 q.2.1)
    · simp only [Option.map_eq_none_iff, List.find?_eq_none]
      intro i _; simp [commitDue i]
  have hre : s.readmitNext = none := by
    unfold State.readmitNext
    rw [readmissions]
    split <;> rfl
  have hres : s.resumeNext = none := by
    unfold State.resumeNext
    simp [running, due]
  have hwalk : s.walkStep = none := by
    unfold State.walkStep
    split
    · next w q => exact absurd q (walk w)
    · rfl
  simp only [State.dueWork, href, hslot, hadm, hreq, hstep, hcommit, hre, hres, hwalk]
  rfl

theorem Calm.dueWork (h : Calm s) : s.dueWork = none := by
  have slot i := h.slots i
  simp only [Slot.calm, Bool.and_eq_true, Bool.not_eq_true', Option.isNone_iff_eq_none, decide_eq_true_eq, ne_eq] at slot
  have stack d := h.stack d
  simp only [Stack.calm, Bool.and_eq_true, Option.isNone_iff_eq_none] at stack
  refine State.dueWork_eq_none (fun i => (slot i).1.1.1.2) h.admissions (fun d => ?_) (fun d => ?_) h.command
    (fun i e => absurd e (slot i).1.2) (fun i => (slot i).1.1.2) h.readmissions h.running h.due h.walk
  · unfold Stack.beginning
    split
    · next e q =>
      have := (stack d).2
      rw [q] at this
      simp only [decide_eq_true_eq] at this
      rcases this.2 with p | p <;> simp [p]
    · simp [(stack d).1]
  · unfold State.deskWaitOver
    split
    · next r holds q =>
      have := (stack d).2
      rw [q] at this
      simp at this
    · rfl

/-- In a calm room a taking leaves no work. -/
theorem Calm.settle (h : Calm s) : s.settle = s.refreshScans := State.settle_of_none h.dueWork h.movedTargets

/-- Bringing the dwell timers in line changes records' scans and desks' marks alone. -/
theorem State.markDesks_conns (l : List Desk) : (s.markDesks l).conns = s.conns := by
  induction l generalizing s with
  | nil => rfl
  | cons d l ih => exact ih (s := s.markDesk d)

theorem State.refreshScans_conns : s.refreshScans.conns = s.conns.map s.scanned := State.markDesks_conns _

theorem State.refreshScans_of_noScan (h : ∀ c ∈ s.conns, c.scan = none) : s.refreshScans = s := by
  have hm : s.conns.map s.scanned = s.conns := by
    conv_rhs => rw [← List.map_id s.conns]
    refine List.map_congr_left fun c hc => ?_
    simp only [State.scanned, h c hc, Option.map_none, id]
    cases c
    have := h _ hc
    simp only at this
    subst this
    rfl
  have hf : s.conns.filter s.pauseChanges = [] := by
    rw [List.filter_eq_nil_iff]
    intro c hc
    simp [State.pauseChanges, h c hc]
  unfold State.refreshScans
  simp only [hm, hf]
  rfl

end Sys2Proof.Machine
end

