-- ==== Sys2Proof/Machine/Frames.lean ====
section
/-!
DEFINITION. The frames the module sends, as bytes on their lines (R192, R195, R197).
-/

namespace Sys2Proof.Machine

/-- A key list filled up to six places with zeros (R197). -/
def sixCodes (codes : List Byte) : List Byte := (codes ++ List.replicate 6 0).take 6

/-- The kind and payload of a frame toward a source (R197). -/
def SourceFrame.content : SourceFrame → Byte × List Byte
  | .tierSet h t => (Kind.tierSet, [byte h, byte t])
  | .input (.keys m codes) => (Kind.inputKeys, m :: sixCodes codes)
  | .input (.pointer dx dy wheel b) => (Kind.inputPointer,
      le16 (BitVec.ofInt 16 dx).toNat ++ le16 (BitVec.ofInt 16 dy).toNat ++ [BitVec.ofInt 8 wheel, b.zeroExtend 8])
  | .input .releaseAll => (Kind.releaseAll, [])

/-- The line of a frame sent, with its kind and payload (R195). -/
def Sent.content : Sent → Line × Byte × List Byte
  | .deskResponse d n r => (.desk d, Kind.response, r.outcome.code :: r.kind :: n :: r.detail.code :: r.data)
  | .deskNotice d n => (.desk d, Kind.notice,
      [n.kind.detail.code, match n.source with
        | some x => byte x
        | none => 255, match n.screen with
        | some k => byte k
        | none => 255, flag n.overflow])
  | .deskLed d x set => (.desk d, Kind.deskLed, [match x with
      | some src => byte src
      | none => 255, set.zeroExtend 8])
  | .toSource x f => (.source x, f.content.1, f.content.2)
  | .supervisory r => (.supervisory, Kind.response, r.outcome.code :: r.kind :: r.detail.code :: r.data)

/-- The line of a frame sent and its bytes (R192). -/
def Sent.bytes (x : Sent) : Line × List Byte := (x.content.1, frameBytes x.content.2.1 x.content.2.2)

end Sys2Proof.Machine
end

