-- ==== Sys2Proof/Tests/Slice0.lean ====
section
/-!
SUPPORT. Checks of the model on fixed values: ill-formed commands that WellFormed refuses, frames and figures worked from the
manual, one step of single commands, and for each statement of Certificates/Slice0/Obligations.lean that has hypotheses a
state and operands that meet them together, clause by clause.
-/

namespace Sys2Proof.Tests

open Sys2Proof.Machine

set_option Elab.async false

/-! ## States to test on -/

def fullHd : Format := ⟨1920, 1080, 60, 24⟩

def liveDesk : DeskLink where
  link := .up
  screenCount := 4
  initialTimer := none
  silenceTimer := some 3000
  graceTimer := none
  frameSince := false

def liveSource : SourceLink where
  link := .up
  headCount := 2
  initialTimer := none
  silenceTimer := some 3000
  frameSince := false
  heads := #v[.active fullHd, .absent, .absent, .absent]

/-- Every link is UP; head 0 of each source is ACTIVE, head 1 ABSENT, and there are no others. -/
def room : State := { State.reset with
  deskLinks := Vector.replicate 16 liveDesk
  sourceLinks := Vector.replicate 24 liveSource
  tiers := Vector.replicate 24 #v[⟨0, some 60, none, some 0⟩, .fresh 0, .fresh 0, .fresh 0] }

/-- A record of desk 0, screen 0. -/
def conn (head : HeadId) (st : RecordState) (step : Option BringUpStep) : Conn where
  handle := 0
  screen := ⟨0, 0⟩
  head := head
  state := st
  reservation := match st with
    | .live => 60
    | .switching => 60
    | _ => 0
  origin := .desk
  step := step
  scan := none
  replaces := none
  answerTo := none
  auto := none
  posted := false
  prior := none

/-- Desk 0 shows head 0 of source 0 on its screen 0. -/
def viewing : State := { room with
  conns := [conn ⟨0, 0⟩ .live none]
  positions := room.positions.set 0 ⟨.route ⟨0, 0⟩, none, none⟩ }

/-- Desk 1 too, and desk 1 holds the source, which is its target. -/
def other : Conn := { conn ⟨0, 0⟩ .live none with handle := 1, screen := ⟨1, 0⟩ }

def held : State := { viewing with
  conns := viewing.conns ++ [other]
  controls := viewing.controls.set 0 ⟨.held .exclusive 1 0, []⟩
  targets := viewing.targets.set 1 (some 0) }

/-- Desk 1 holds source 0 and claims wait. -/
def queued (q : List Claim) : State := { held with controls := held.controls.set 0 ⟨.held .exclusive 1 0, q⟩ }

/-- A desk requested the record that is being brought up on its screen. -/
def asking : Stack := ⟨some ⟨⟨7, .connect 0 0 0⟩, .inFlight⟩, none⟩

def switching : State := { room with
  conns := [{ conn ⟨0, 0⟩ .switching (some .lock) with answerTo := some .desk }]
  requests := room.requests.set 0 asking
  positions := room.positions.set 0 ⟨.route ⟨0, 0⟩, none, some 400⟩ }

def entry : StageEntry := ⟨⟨0, 0⟩, .head ⟨0, 1⟩⟩

def slotOf (st : SlotState) : Slot := { Slot.fresh with
  state := st, owner := some .supervisor, entries := [⟨entry, false, st = .armed⟩]
  holdTimer := if st = .armed then some 60000 else none }

/-- Slot 0 is in the state given, with one entry for screen 0 of desk 0. -/
def staged (st : SlotState) : State := { room with slots := room.slots.set 0 (slotOf st) }

def presets (p : Preset) : State := { room with store := { room.store with presets := room.store.presets.set 0 p } }

def goodPreset : Preset := .valid [entry] (some (checkValue (presetImage [entry])))

def roomWith (k : Settings) : State := { room with settings := k }

/-- Every cell of the rights matrix at one level. -/
def withRights (r : Right) : State := roomWith { Settings.factory with
  rights := Vector.replicate 16 (Vector.replicate 24 r) }

def locked (m : Manner) (due : Option Time) : State := { room with roomLock := some ⟨⟨true, true, true, true⟩, m, due⟩ }

def inputs (p : InputPath) : State := { held with inputs := held.inputs.set 0 p }

def notified : State := { room with notices := room.notices.set 0 [⟨.forced, none, some 0, false⟩] }

def sourceAt (l : SourceLink) : State := { room with sourceLinks := room.sourceLinks.set 0 l }

def deskAt (l : DeskLink) : State := { room with deskLinks := room.deskLinks.set 0 l }

def scanning : Conn := { conn ⟨0, 0⟩ .live none with scan := some ⟨[⟨0, 0⟩, ⟨1, 0⟩], 1, 10, .running 10000, false⟩ }

/-- Screen 0 of desk 0 scans the heads given, and shows the first. -/
def scanningRoom (q : List HeadId) : State := { viewing with
  conns := [{ scanning with scan := some ⟨q, 1, 10, .running 10000, false⟩ }] }

def saving : State := { room with
  command := some .saveSettings, store := { room.store with op := some (.saveSettings Settings.factory) } }

/-- Desk 1 holds source 0 in PRIVATE. -/
def privately : State := { room with controls := room.controls.set 0 ⟨.held .priv 1 0, []⟩ }

/-- The start-up that a RESTART runs is still to end. -/
def restarting : State := { room with command := some .restart }

/-- The factory defaults with preset 0 as the start preset. -/
def startsWith0 : Settings := { Settings.factory with room := { Settings.factory.room with startPreset := some 0 } }

def chosen (p : Preset) : State := { presets p with
  store := { (presets p).store with region := startsWith0, regionCheck := some (checkValue startsWith0.image) } }

def after (c : Instr) (s : State) : State :=
  match exec c s with
  | .next t => t
  | .fault _ => s
  | .refused _ => s

/-- What the last frame sent said, and with which code. -/
def lastReply (c : Instr) (s : State) : Option (ResponseOutcome × Detail) :=
  match (after c s).sent.getLast? with
  | some (.deskResponse _ _ r) => some (r.outcome, r.detail)
  | some (.supervisory r) => some (r.outcome, r.detail)
  | _ => none

theorem quiet_of (s : State) (h : (s.calm && s.conns.all (·.scan.isNone)) = true) : s.quiet := by
  simp only [Bool.and_eq_true, List.all_eq_true, Option.isNone_iff_eq_none] at h
  exact h

theorem bounded_of (s : State)
    (h : (allSources.all fun x => decide ((s.input x).queue = []) && decide ((s.input x).deferred = none)
      && decide ((s.claims x).length ≤ 4)) = true)
    (k : (allDesks.all fun d => decide ((s.noticeList d).length ≤ 4)) = true)
    (p : s.conns.Pairwise fun a b => a.handle < b.handle) : s.Bounded := by
  simp only [List.all_eq_true, Bool.and_eq_true, decide_eq_true_eq] at h k
  have i (x : Source) := h x (by simp [allSources])
  exact ⟨fun x => ⟨by simp [(i x).1.1], by simp [(i x).1.1], by simp [(i x).1.2]⟩, fun x => (i x).2, fun d => k d (by simp [allDesks]), p⟩

/-- A bounded state stays so with an input path that keeps its law. -/
theorem bounded_with {s : State} (h : s.Bounded) (x : Source) {p : InputPath} (hp : p.Bounded) :
    ({ s with inputs := s.inputs.set x p } : State).Bounded where
  inputs y := by
    simp only [State.input, Fin.getElem_fin, Vector.getElem_set]
    split
    · exact hp
    · exact h.inputs y
  claims := h.claims
  notices := h.notices
  handles := h.handles

/-! ## WellFormed refuses what cannot occur -/

theorem test_payload_too_long_refused : wellFormed (.sourceHeartbeat 0 (List.replicate 249 0)) = false := by decide +kernel

theorem test_payload_of_248_accepted : wellFormed (.sourceHeartbeat 0 (List.replicate 248 0)) = true := by decide +kernel

theorem test_known_kind_as_unknown_refused :
    wellFormed (.sourceUnknownKind 0 0x07 []) = false ∧ wellFormed (.deskUnknownKind 0 0x10 [1]) = false
      ∧ wellFormed (.supervisoryUnknownKind 0x5A []) = false := by decide +kernel

theorem test_malformed_bytes_that_are_a_frame_refused :
    wellFormed (.malformedFrame (.desk 0) [0xA5, 0x00, 0x02, 0xFE] false) = false
      ∧ wellFormed (.malformedFrame (.desk 0) [] false) = false := by decide +kernel

theorem test_stop_bit_off_supervisory_line_refused :
    wellFormed (.malformedFrame (.source 0) [0x00] true) = false ∧ wellFormed (.malformedFrame .supervisory [0x00] true) = true := by
  decide +kernel

theorem test_no_row_has_bits : decodeTableWord 32 0xA5001000 = none ∧ State.reset.withFetchWord 32 0xA5001000 = State.reset :=
  ⟨rfl, rfl⟩

/-! ## Figures worked in the manual -/

/-- The check value of the nine bytes "123456789" (R185). -/
theorem test_check_value : checkValue [0x31, 0x32, 0x33, 0x34, 0x35, 0x36, 0x37, 0x38, 0x39] = 0xBB3D := by decide +kernel

/-- The settings image is 623 bytes (R185). -/
theorem test_image_length : Settings.factory.image.length = 623 := by decide +kernel

/-- The table of 03, section 3.1. -/
theorem test_raw_charges :
    rawCharge ⟨1920, 1080, 60, 24⟩ = 60 ∧ rawCharge ⟨3840, 2160, 60, 30⟩ = 299 ∧ rawCharge ⟨640, 480, 24, 18⟩ = 3
      ∧ rawCharge ⟨4096, 2400, 120, 30⟩ = 708 := by decide +kernel

/-! ## One step of single commands -/

theorem test_connect_posts_route :
    (after (.connect 3 [7, 1, 9, 0]) room).conns.map Conn.core = [(⟨3, 1⟩, ⟨9, 0⟩, .switching, .desk, some .switch)]
      ∧ ((after (.connect 3 [7, 1, 9, 0]) room).position ⟨3, 1⟩).pending = some (.route ⟨9, 0⟩) := by decide +kernel

theorem test_connect_of_absent_head_waits :
    (after (.connect 3 [7, 1, 9, 1]) room).conns.map (·.state) = [.waiting]
      ∧ lastReply (.connect 3 [7, 1, 9, 1]) room = some (.done, .noDetail) := by decide +kernel

theorem test_frame_event_starts_lock_timer :
    (after .houseFrameEvent (after (.connect 0 [7, 0, 0, 0]) room)).position ⟨0, 0⟩ = ⟨.route ⟨0, 0⟩, none, some 400⟩ := by
  decide +kernel

theorem test_locked_makes_live : (after (.locked 0 [0]) switching).conns.map (·.state) = [.live] := by decide +kernel

theorem test_lock_timeout_makes_fault :
    (after (.lockTimerExpiry 0 0) switching).conns.map (fun c => (c.state, c.reservation)) = [(.fault, 0)]
      ∧ lastReply (.lockTimerExpiry 0 0) switching = some (.failed, .lockTimeout) := by decide +kernel

theorem test_unlocked_restarts_lock_timer :
    ((after (.unlocked 0 [0]) viewing).position ⟨0, 0⟩).lockTimer = some 400 := by decide +kernel

/-- R68: screen 0.1 asks for head 3 of source 0, and its admission raises head 2, which screen 0.0 shows.  A DESCRIPTOR with a
head count of 2 takes both heads away: the raise is abandoned, and the request is refused before the records are moved. -/
theorem test_abandoned_raise_refuses :
    lastReply (.sourceDescriptor 0 [2]) { sourceAt { liveSource with
        headCount := 4, heads := #v[.absent, .absent, .active fullHd, .active fullHd] } with
      conns := [conn ⟨0, 2⟩ .live none, newConn 1 ⟨0, 1⟩ ⟨0, 3⟩ .desk none none .desk]
      requests := room.requests.set 0 ⟨some ⟨⟨7, .connect 1 0 3⟩, .inFlight⟩, none⟩
      admissions := [⟨0, .record 1, [⟨⟨0, 3⟩, ⟨0, 1⟩⟩], .own⟩]
      tiers := room.tiers.set 0 #v[.fresh 0, .fresh 0, ⟨0, some 60, some ⟨0, 1, .admission 0, 500⟩, some 1⟩, ⟨0, some 60, none, some 0⟩] }
      = some (.failed, .tierTimeout) := by decide +kernel

/-- R174, R34 and R16: a FORCE_DISCONNECT that waits for a re-admission on screen 0.1 has no record of its own.  A descriptor with one
screen retires the record there, and the force takes up step 1 again and fails its first check. -/
theorem test_held_force_beyond_screens_refused :
    lastReply (.deskDescriptor 0 [1]) { room with
      conns := [{ conn ⟨0, 0⟩ .switching (some .lock) with screen := ⟨0, 1⟩, auto := some .readmission }]
      command := some (.forceDisconnect ⟨0, 1⟩ (.held [.bringUp ⟨0, 0⟩ (some .readmission)])) }
      = some (.refused, .badArgument) := by decide +kernel

theorem test_disconnect_blanks_screen :
    (after (.disconnect 0 [7, 0]) viewing).conns = []
      ∧ ((after (.disconnect 0 [7, 0]) viewing).position ⟨0, 0⟩).pending = some (.card .blank) := by decide +kernel

theorem test_source_loss_moves_record_to_waiting :
    (after (.sourceLinkLoss 0) viewing).conns.map (fun c => (c.state, c.reservation)) = [(.waiting, 0)] := by decide +kernel

theorem test_desk_loss_suspends_record :
    (after (.deskLinkLoss 0) viewing).conns.map (·.state) = [.suspended .deskAbsent]
      ∧ ((after (.deskLinkLoss 0) viewing).deskLink 0).graceTimer = some 60000 := by decide +kernel

/-- R124, step 3 before 4: the RELEASE_ALL of a lost driver starts before the TIER_SET of the head that it ceases to show. -/
theorem test_desk_loss_releases_first :
    let s : State := { held with
      conns := [other], tiers := held.tiers.set 0 (held.tiers[0].set 0 ⟨1, some 60, none, some 1⟩) }
    let p := (after (.deskLinkLoss 1) s).input 0
    p.sending = some (.input .releaseAll) ∧ p.tierSets = [(0, 0)] := by decide +kernel

theorem test_take_of_free_source : (after (.take 0 [7, 0, 0, 0]) viewing).control 0 = .held .exclusive 0 0 := by decide +kernel

theorem test_take_of_held_source_waits :
    (after (.take 0 [7, 0, 0, 0]) held).claims 0 = [⟨0, 0, .exclusive, 1⟩] := by decide +kernel

theorem test_take_unseen_refused : lastReply (.take 5 [7, 0, 0, 0]) held = some (.refused, .notViewing) := by decide +kernel

theorem test_release_passes_to_claim :
    (after (.release 1 [7]) (queued [⟨0, 0, .exclusive, 1⟩])).control 0 = .held .exclusive 0 0 := by decide +kernel

theorem test_keys_reach_target :
    ((after (.keys 1 [2, 4, 0, 4, 5, 0, 0]) held).input 0).sending = some (.input (.keys 2 [4, 5])) := by decide +kernel

theorem test_set_desk_clamps :
    (after (.setDesk [0, 7, 9, 31, 0x59, 0x02]) room).settings.desks[0] = ⟨7, 30, 600⟩
      ∧ lastReply (.setDesk [0, 7, 9, 31, 0x59, 0x02]) room = some (.done, .adjusted) := by decide +kernel

theorem test_arm_loaded_slot : ((after (.arm [0]) (staged .loaded)).slot 0).holdTimer = some 60000 := by decide +kernel

theorem test_commit_waits_for_frame :
    ((after (.commit [0]) (staged .armed)).slot 0).state = .committing
      ∧ (after (.commit [0]) (staged .armed)).command = some (.commit 0) := by decide +kernel

theorem test_busy_while_command_waits : lastReply (.busy 0x30 []) saving = some (.busy, .noDetail) := by decide +kernel

theorem test_restart_in_progress_is_busy :
    lastReply (.busy 0x30 []) restarting = some (.busy, .noDetail)
      ∧ ((after (.deskDescriptor 0 [2]) restarting).deskLink 0).screenCount = 4 ∧ (after .houseFrameEvent restarting).command = some .restart := by
  decide +kernel

theorem test_step_ends_restart : ∃ t, step restarting = .next t ∧ t.command = none := ⟨_, rfl, by decide +kernel⟩

theorem test_bytes_that_complete_a_frame :
    lastReply (.malformedFrame .supervisory [0xD0] false) (after (.malformedFrame .supervisory [0xA5, 0x00, 0x30] false) room)
      = some (.done, .noDetail) := by decide +kernel

theorem test_settings_saved : lastReply (.settingsSaveComplete true) saving = some (.done, .noDetail) := by decide +kernel

theorem test_no_power_no_answer :
    (after .powerFail room).powered = false ∧ (after (.ping []) (after .powerFail room)).sent = [] := by decide +kernel

theorem test_restoration_delay_walks :
    (after .restorationDelayExpiry { room with restoration := .delaying 2000 }).restoration = .idle := by decide +kernel

/-- R74: after a delay that expired under the lock the walk begins from the start, and comes to the head before its stop. -/
theorem test_unlock_begins_walk_from_start :
    let s : State := { viewing with
      tiers := viewing.tiers.set 0 (viewing.tiers[0].set 0 ⟨1, some 60, none, some 1⟩)
      roomLock := (locked .soft none).roomLock, expiredUnderLock := true
      restoration := .walking ⟨5, none, some ⟨1, 1⟩, false, []⟩ }
    ((after (.unlock []) s).tier ⟨0, 0⟩).change = some ⟨1, 0, .restoration, 500⟩ := by decide +kernel

/-! ## States and operands that meet the hypotheses of the statements -/

theorem room_quiet : room.quiet := quiet_of _ (by decide +kernel)
theorem reset_quiet : State.reset.quiet := quiet_of _ (by decide +kernel)
theorem viewing_quiet : viewing.quiet := quiet_of _ (by decide +kernel)
theorem held_quiet : held.quiet := quiet_of _ (by decide +kernel)
theorem switching_quiet : switching.quiet := quiet_of _ (by decide +kernel)
theorem room_bounded : room.Bounded := bounded_of _ (by decide +kernel) (by decide +kernel) (by decide +kernel)
theorem viewing_bounded : viewing.Bounded := bounded_of _ (by decide +kernel) (by decide +kernel) (by decide +kernel)
theorem switching_bounded : switching.Bounded := bounded_of _ (by decide +kernel) (by decide +kernel) (by decide +kernel)

theorem witness_StepRunsFrontCommand :
    ({ room with pending := [.houseFrameEvent, .ping []] } : State).pending = .houseFrameEvent :: [.ping []] := rfl

theorem witness_IdleStepPassesTime :
    room.pending = [] ∧ room.powered = true ∧ room.command ≠ some .restart
      ∧ (restarting.pending = [] ∧ restarting.powered = true ∧ restarting.command = some .restart
        ∧ (restarting.settings.desks[(0 : Desk)]).grace ≠ 0)
      ∧ ({ room with powered := false } : State).pending = [] ∧ ({ room with powered := false } : State).powered = false := by
  decide +kernel

theorem witness_EveryCommandCompletes :
    ({ room with powered := false } : State).powered = false ∧ Instr.ping [] ≠ .powerUp ∧ room.powered = true := by decide +kernel

theorem witness_StepKeepsSettingsLegal : ∃ t, room.SettingsLegal ∧ step room = .next t := by
  refine ⟨_, ⟨?_, ?_, ?_⟩, rfl⟩
  · simp only [Settings.Legal, DeskSettings.Legal, SourceSettings.Legal, RoomSettings.Legal]; decide +kernel
  · simp only [Settings.Legal, DeskSettings.Legal, SourceSettings.Legal, RoomSettings.Legal]; decide +kernel
  · intro op h; cases h

theorem witness_StepKeepsBounds : ∃ t, viewing.Bounded ∧ step viewing = .next t := ⟨_, viewing_bounded, rfl⟩

theorem viewing_lawful : viewing.Lawful := by
  constructor <;> try decide +kernel
  case forces => rintro c (_ | ⟨_, ⟨⟩⟩) ⟨⟩
  case layouts => refine ⟨?_, ?_, ?_⟩ <;> (simp only [oneEach]; decide +kernel)
  case claims => simp only [Claim.before]; decide +kernel

theorem viewing_totals : viewing.Totals := by
  constructor <;> first
    | decide +kernel
    | (rintro ⟨x, k⟩; revert x k; decide +kernel)

theorem viewing_legal : viewing.SettingsLegal := by
  refine ⟨⟨?_, ?_, ?_⟩, ⟨?_, ?_, ?_⟩, ?_⟩
  all_goals first
    | (simp only [DeskSettings.Legal, SourceSettings.Legal, RoomSettings.Legal]; decide +kernel)
    | (intro op h; cases h)

theorem witness_StepKeepsLaws : ∃ t, viewing.Bounded ∧ viewing.Lawful ∧ step viewing = .next t :=
  ⟨_, viewing_bounded, viewing_lawful, rfl⟩

theorem witness_StepKeepsTotals :
    ∃ t, viewing.SettingsLegal ∧ viewing.Bounded ∧ viewing.Lawful ∧ viewing.Totals ∧ step viewing = .next t :=
  ⟨_, viewing_legal, viewing_bounded, viewing_lawful, viewing_totals, rfl⟩

theorem witness_StateMovesByItsOwnEvents :
    let c : Instr := .ping []
    setsSettings c = false ∧ setsRoomLock c = false ∧ clearsMarks c = false ∧ movesSource 23 c = false ∧ movesDesk 15 c = false :=
  ⟨rfl, rfl, rfl, rfl, rfl⟩

theorem witness_FramesReadBack :
    wellFormed (.connect 15 [7, 1, 9, 0]) = true ∧ (Instr.connect 15 [7, 1, 9, 0]).frame? = some (.desk 15, 0x10, [7, 1, 9, 0])
      ∧ wellFormed (.sourceUnknownKind 23 0xFF (List.replicate 248 0)) = true
      ∧ (Instr.sourceUnknownKind 23 0xFF (List.replicate 248 0)).frame? = some (.source 23, 0xFF, List.replicate 248 0)
      ∧ wellFormed (.busy 0x30 []) = true ∧ (Instr.busy 0x30 []).frame? = some (.supervisory, 0x30, []) := by decide +kernel

/-- The smallest and the largest format in range, and the smallest and the largest raw charge. -/
theorem witness_ChargesRoundUp :
    let f : Format := ⟨640, 480, 24, 18⟩
    let g : Format := ⟨4096, 2400, 120, 30⟩
    (640 ≤ f.width ∧ f.width ≤ 4096 ∧ 480 ≤ f.height ∧ f.height ≤ 2400 ∧ 24 ≤ f.refresh ∧ f.refresh ≤ 120
      ∧ (f.depth = 18 ∨ f.depth = 24 ∨ f.depth = 30))
    ∧ (640 ≤ g.width ∧ g.width ≤ 4096 ∧ 480 ≤ g.height ∧ g.height ≤ 2400 ∧ 24 ≤ g.refresh ∧ g.refresh ≤ 120
      ∧ (g.depth = 18 ∨ g.depth = 24 ∨ g.depth = 30))
    ∧ (⟨0, some 3, none, none⟩ : TierRecord).raw = some 3 ∧ (⟨3, some 708, none, none⟩ : TierRecord).raw = some 708
    ∧ 3 ≤ 3 ∧ 3 ≤ 708 ∧ 708 ≤ 708 ∧ (0 : Tier) ≤ 3 := by decide +kernel

theorem witness_RoomAtRestStaysSo : room.quiet ∧ viewing.quiet ∧ switching.quiet := ⟨room_quiet, viewing_quiet, switching_quiet⟩

theorem witness_HeartbeatsRestartTimers :
    room.powered = true ∧ (room.deskLink 0).link.live = true
      ∧ State.reset.powered = true ∧ (State.reset.deskLink 0).link.live = false := by decide +kernel

def forcing : State := { room with command := some (.forceConnect ⟨0, 0⟩ ⟨0, 0⟩ .inFlight) }

theorem witness_SupervisoryLineAnswers :
    room.powered = true ∧ room.command = none ∧ ([0] : List Byte) ≠ []
      ∧ (forcing.powered = true ∧ forcing.command.isSome = true ∧ (Instr.busy 0x38 [1]).frame? = some (.supervisory, 0x38, [1]))
      ∧ (saving.powered = true ∧ saving.command.isSome = true ∧ (Instr.changes []).frame? = some (.supervisory, 0x54, [])) :=
  ⟨rfl, rfl, by decide, ⟨rfl, rfl, rfl⟩, rfl, rfl, rfl⟩

/-- A partial frame, a whole one, one that completes with its check byte, and a wrong check byte on an empty and a full payload. -/
theorem witness_ReceiversDropMalformedFrames :
    let mid : State := { room with supervisoryReceiver := (Receiver.feedAll .hunting [0xA5, 0x00, 0x30]).1, gapTimer := some 100 }
    (room.powered = true ∧ (Receiver.feedAll room.supervisoryReceiver [0xA5]).2 = []
      ∧ (Receiver.feedAll room.sourceReceivers[(0 : Source)] [0x12]).2 = []
      ∧ (Receiver.feedAll room.deskReceivers[(0 : Desk)] [0xA5, 0x04]).2 = [] ∧ ([0xA5] : List Byte) ≠ []
      ∧ (Receiver.feedAll room.supervisoryReceiver ([0xA5, 0x00] : List Byte).dropLast).2 = [] ∧ room.gapTimer = none)
    ∧ (mid.powered = true ∧ wellFormed (.ping []) = true ∧ (Instr.ping []).frame? = some (.supervisory, 0x30, [])
      ∧ isBusy (.ping []) = mid.command.isSome ∧ (Receiver.feedAll (mid.receiver .supervisory) [0xD0]).2 = [(0x30, [])]
      ∧ (Receiver.feedAll (mid.receiver .supervisory) ([0xD0] : List Byte).dropLast).2 = [] ∧ mid.gapTimer = some 100)
    ∧ (([] : List Byte).length ≤ 248 ∧ (0x01 : Byte) ≠ checkByte 0x30 []
      ∧ (List.replicate 248 (0 : Byte)).length ≤ 248 ∧ (0x01 : Byte) ≠ checkByte 0x30 (List.replicate 248 0)) := by
  decide +kernel

theorem witness_SourceDescriptorBringsLinkUp :
    State.reset.powered = true ∧ (0 : Byte).toNat < 1 ∧ 4 < (5 : Byte).toNat ∧ restarting.command = some .restart
      ∧ (1 ≤ (1 : Byte).toNat ∧ (4 : Byte).toNat ≤ 4 ∧ State.reset.command ≠ some .restart
        ∧ (State.reset.sourceLink 0).link = .down ∧ State.reset.quiet ∧ ∀ i, (State.reset.slot i).state ≠ .armed)
      ∧ room.powered = true ∧ room.command ≠ some .restart ∧ (room.sourceLink 0).link.live = true
      ∧ (2 : Byte).toNat = (room.sourceLink 0).headCount
      ∧ (1 : Byte).toNat ≠ (room.sourceLink 0).headCount ∧ (4 : Byte).toNat ≠ (room.sourceLink 0).headCount
      ∧ (room.sourceLink 0).headCount < (4 : Byte).toNat ∧ room.quiet := by
  refine ⟨?_, ?_, ?_, ?_, ⟨?_, ?_, ?_, ?_, reset_quiet, ?_⟩, ?_, ?_, ?_, ?_, ?_, ?_, ?_, room_quiet⟩ <;> decide +kernel

theorem witness_HeadFormatMovesHead :
    let top : Format := ⟨65535, 65535, 255, 255⟩
    (∀ g ∈ some top, g.width < 65536 ∧ g.height < 65536 ∧ g.refresh < 256 ∧ g.depth < 256)
    ∧ State.reset.powered = true ∧ (State.reset.sourceLink 0).link = .down
    ∧ viewing.powered = true ∧ (viewing.sourceLink 0).headCount ≤ (2 : HeadIx).val
    ∧ (viewing.sourceLink 0).link.live = true ∧ (0 : HeadIx).val < (viewing.sourceLink 0).headCount
    ∧ (viewing.head ⟨0, 0⟩).settleTimer = none ∧ (viewing.head ⟨0, 0⟩).format = some fullHd
    ∧ viewing.quiet ∧ viewing.Bounded ∧ (viewing.head ⟨0, 0⟩).announced none viewing.now ≠ viewing.head ⟨0, 0⟩
    ∧ (viewing.head ⟨0, 0⟩).announced (some top) viewing.now ≠ viewing.head ⟨0, 0⟩
    -- no bytes, a presence byte of 2, lengths that do not go with the presence byte, and a head above 3
    ∧ (∀ w ∈ ([[], [0, 2], [0, 1], [0, 0, 0, 0, 0, 0, 0, 0]] : List (List Byte)),
        ¬ (w.length = 2 ∧ w[1]? = some 0) ∧ ¬ (w.length = 8 ∧ w[1]? = some 1))
    ∧ 4 ≤ (([4, 0] : List Byte).headD 0).toNat := by
  refine ⟨?_, ?_, ?_, ?_, ?_, ?_, ?_, ?_, ?_, viewing_quiet, viewing_bounded, ?_, ?_, ?_, ?_⟩ <;> decide +kernel

theorem witness_SettleTimerActivatesHead :
    let s := sourceAt { liveSource with heads := #v[.settling ⟨640, 480, 24, 18⟩ 300, .settling ⟨639, 480, 24, 18⟩ 300, .absent, .absent] }
    s.powered = true ∧ s.head ⟨0, 0⟩ = .settling ⟨640, 480, 24, 18⟩ 300 ∧ s.head ⟨0, 1⟩ = .settling ⟨639, 480, 24, 18⟩ 300
      ∧ (s.head ⟨0, 2⟩).settleTimer = none := by decide +kernel

/-- Another record's re-admission waits for its tier change; a record that waits for the head is listed already, one is not. -/
theorem witness_SettleTimerActivatesHead_lists :
    let r : Conn := { conn ⟨1, 0⟩ .admitting (some .admission) with handle := 2, screen := ⟨5, 0⟩, auto := some .readmission }
    let waits (h : Handle) (d : Desk) : Conn := { conn ⟨0, 0⟩ .waiting none with handle := h, screen := ⟨d, 0⟩ }
    let s : State := { room with
      conns := [waits 0 0, waits 1 1, r]
      sourceLinks := room.sourceLinks.set 0 { liveSource with heads := #v[.settling ⟨640, 480, 24, 18⟩ 300, .absent, .absent, .absent] }
      tiers := (room.tiers.set 0 #v[⟨0, none, none, some 0⟩, .fresh 0, .fresh 0, .fresh 0]).set 1
        (room.tiers[1].set 0 ⟨0, some 60, some ⟨0, 1, .admission 7, 500⟩, some 1⟩)
      readmissions := [⟨1, .commit⟩]
      admissions := [⟨7, .record 2, [⟨⟨1, 0⟩, ⟨5, 0⟩⟩], .own⟩] }
    ({ s.without r.handle with admissions := [], readmissions := [] } : State).quiet ∧ s.Bounded ∧ s.powered = true
      ∧ s.head ⟨0, 0⟩ = .settling ⟨640, 480, 24, 18⟩ 300 ∧ r ∈ s.conns ∧ r.auto = some .readmission ∧ r.step = some .admission
      ∧ r.replaces = none ∧ r.scan = none ∧ s.admissions = [⟨7, .record r.handle, [⟨⟨1, 0⟩, ⟨5, 0⟩⟩], .own⟩]
      ∧ s.issuedOutstanding 7 = true ∧ (s.tier ⟨0, 0⟩).raw = none
      ∧ (∀ i, ∀ e ∈ (s.slot i).entries, e.entry.target ≠ .head ⟨0, 0⟩) := by
  refine ⟨quiet_of _ ?_, bounded_of _ ?_ ?_ ?_, ?_⟩ <;> decide +kernel

/-- Head 0 of source 0 is changing from tier 0 to tier 1, its TIER_SET on the transmitter. -/
def changing : State := { viewing with
  tiers := viewing.tiers.set 0 (viewing.tiers[0].set 0 ⟨0, some 60, some ⟨0, 1, .restoration, 500⟩, some 1⟩)
  inputs := viewing.inputs.set 0 { InputPath.fresh with sending := some (.tierSet 0 1) } }

theorem witness_TierChangeSettles :
    changing.powered = true ∧ ((changing.tier ⟨0, 0⟩).change ≠ none ∧ (changing.tier ⟨0, 0⟩).change.map (·.new) ≠ some 2)
      ∧ (changing.tier ⟨0, 1⟩).change = none ∧ (changing.sourceLink 0).headCount ≤ (2 : HeadIx).val
      ∧ changing.quiet ∧ (changing.tier ⟨0, 0⟩).change = some ⟨0, 1, .restoration, 500⟩
      ∧ (changing.sourceLink 0).link.live = true ∧ (0 : HeadIx).val < (changing.sourceLink 0).headCount := by
  refine ⟨?_, ?_, ?_, ?_, quiet_of _ ?_, ?_⟩ <;> decide +kernel

theorem witness_LedStateReachesDesks :
    room.powered = true ∧ (room.sourceLink 0).link.live = true ∧ (room.input 0).led ≠ some ((0x1F : Byte).truncate 5)
      ∧ ((inputs { InputPath.fresh with led := some 0x1F }).input 0).led = some ((0x1F : Byte).truncate 5)
      ∧ (State.reset.sourceLink 0).link = .down ∧ ([] : List Byte).length ≠ 1 ∧ ([0, 0] : List Byte).length ≠ 1 := by
  decide +kernel

theorem witness_InitialPeriodEndsInUp :
    let s := sourceAt { liveSource with link := .initial, initialTimer := some 10000, silenceTimer := none, frameSince := true }
    let t := deskAt { liveDesk with link := .initial, initialTimer := some 10000, silenceTimer := none, frameSince := true }
    s.powered = true ∧ (s.sourceLink 0).link = .initial ∧ (s.sourceLink 0).initialTimer = some 10000
      ∧ (s.sourceLink 0).frameSince = true
      ∧ t.powered = true ∧ (t.deskLink 0).link = .initial ∧ (t.deskLink 0).initialTimer = some 10000 ∧ (t.deskLink 0).frameSince = true
      ∧ (room.sourceLink 0).link ≠ .initial ∧ (room.deskLink 0).link ≠ .initial
      ∧ ((sourceAt { liveSource with link := .initial }).sourceLink 0).initialTimer = none
      ∧ ((deskAt { liveDesk with link := .initial }).deskLink 0).initialTimer = none := by decide +kernel

theorem witness_SourceLinkGoesDown :
    let s := sourceAt { liveSource with link := .initial, initialTimer := some 10000, silenceTimer := none }
    viewing.powered = true ∧ viewing.quiet ∧ viewing.Bounded ∧ (viewing.sourceLink 0).link = .up
      ∧ (viewing.sourceLink 0).silenceTimer = some 3000 ∧ (viewing.sourceLink 0).link.live = true ∧ viewing.command = none
      ∧ s.powered = true ∧ (s.sourceLink 0).link = .initial ∧ (s.sourceLink 0).initialTimer = some 10000
      ∧ (s.sourceLink 0).frameSince = false ∧ (s.sourceLink 0).link ≠ .up
      ∧ (State.reset.sourceLink 0).link = .down ∧ State.reset.command = none := by
  refine ⟨?_, viewing_quiet, viewing_bounded, ?_⟩ <;> decide +kernel

def keysEntry : InputEntry := ⟨1, .keys 0 [4]⟩

theorem witness_TransmitterSendsNextFrame :
    let f : SourceFrame := .input .releaseAll
    let a := inputs { InputPath.fresh with sending := some f, tierSets := [(0, 1)] }
    let b := inputs { InputPath.fresh with sending := some f, queue := List.replicate 16 keysEntry, deferred := some keysEntry }
    let c := inputs { InputPath.fresh with sending := some f }
    held.powered = true ∧ (held.input 0).sending = none
      ∧ ((a.input 0).sending = some f ∧ (a.sourceLink 0).link.live = true ∧ (a.input 0).tierSets = (0, 1) :: [])
      ∧ ((b.input 0).sending = some f ∧ (b.sourceLink 0).link.live = true ∧ (b.input 0).tierSets = []
        ∧ (b.input 0).queue = keysEntry :: List.replicate 15 keysEntry)
      ∧ ((c.input 0).sending = some f ∧ (c.sourceLink 0).link.live = true ∧ (c.input 0).tierSets = [] ∧ (c.input 0).queue = []) := by
  decide +kernel

theorem witness_DeskDescriptorBringsLinkUp :
    ((0 : Byte).toNat < 1 ∧ 4 < (5 : Byte).toNat ∧ 1 ≤ (1 : Byte).toNat ∧ (4 : Byte).toNat ≤ 4
      ∧ restarting.powered = true ∧ restarting.command = some .restart
      ∧ State.reset.powered = true ∧ State.reset.command ≠ some .restart ∧ (State.reset.deskLink 0).link.live = false
      ∧ viewing.powered = true ∧ viewing.command ≠ some .restart ∧ (viewing.deskLink 0).link.live = true
      ∧ (4 : Byte).toNat = (viewing.deskLink 0).screenCount ∧ (1 : Byte).toNat ≠ (viewing.deskLink 0).screenCount
      ∧ (1 : Byte).toNat < (viewing.deskLink 0).screenCount)
    ∧ viewing.quiet ∧ viewing.Bounded := by
  refine ⟨?_, viewing_quiet, viewing_bounded⟩; decide +kernel

theorem witness_LockReportsMoveRecords :
    room.powered = true ∧ (room.position ⟨0, 3⟩).lockTimer = none ∧ (room.screenConn ⟨0, 3⟩).map (·.state) ≠ some .live
      ∧ switching.quiet ∧ switching.Bounded
      ∧ switching.screenConn ⟨0, 0⟩ = some { conn ⟨0, 0⟩ .switching (some .lock) with answerTo := some .desk }
      ∧ (switching.deskLink 0).link.live = true ∧ (0 : ScreenIx).val < (switching.deskLink 0).screenCount
      ∧ (switching.position ⟨0, 0⟩).lockTimer = some 400
      ∧ viewing.quiet ∧ viewing.Bounded ∧ viewing.screenConn ⟨0, 0⟩ = some (conn ⟨0, 0⟩ .live none)
      ∧ (viewing.deskLink 0).link.live = true ∧ (0 : ScreenIx).val < (viewing.deskLink 0).screenCount := by
  refine ⟨?_, ?_, ?_, switching_quiet, switching_bounded, ?_, ?_, ?_, ?_, viewing_quiet, viewing_bounded, ?_⟩ <;> decide +kernel

theorem witness_ReportsReachTheTarget_held :
    let point (b : BitVec 5) : InputEntry := ⟨1, .pointer 2047 (-2047) 127 b⟩
    let short := inputs { InputPath.fresh with queue := List.replicate 14 keysEntry ++ [point 1] }
    let full := inputs { InputPath.fresh with queue := List.replicate 15 keysEntry ++ [point 1] }
    let keys := inputs { InputPath.fresh with queue := List.replicate 16 keysEntry }
    held.powered = true ∧ (held.deskLink 1).link.live = true ∧ held.target 0 = none ∧ (held.deskLink 0).link.live = true
      ∧ held.target 1 = some 0 ∧ (held.sourceLink 0).link.live = true ∧ held.control 0 = .held .exclusive 1 0
      ∧ ((short.input 0).queue.length < 16 ∧ (short.input 0).pointerTail 1 = some (2047, -2047, 127, 1) ∧ (1 : Byte).truncate 5 = (1 : BitVec 5)
        ∧ (1 : BitVec 5) ≠ (0 : Byte).truncate 5)
      ∧ (16 ≤ (full.input 0).queue.length ∧ (full.input 0).pointerTail 1 = some (2047, -2047, 127, 1))
      ∧ (16 ≤ (keys.input 0).queue.length ∧ (keys.input 0).pointerTail 1 = none)
      ∧ ((held.input 0).pointerTail 1 = none ∧ (held.input 0).queue.length < 16) := by decide +kernel

def sharingWith (a : Option Sharer) (q : List InputEntry) : State := { viewing with
  controls := viewing.controls.set 0 ⟨.shared [0, 1], []⟩
  targets := (viewing.targets.set 0 (some 0)).set 1 (some 0)
  inputs := viewing.inputs.set 0 { InputPath.fresh with sharer := a, queue := q }
  now := 799 }

def sharing (a : Option Sharer) : State := sharingWith a []

theorem witness_ReportsReachTheTarget_shared :
    let down : State := { held with sourceLinks := held.sourceLinks.set 0 .fresh }
    (down.powered = true ∧ (down.deskLink 1).link.live = true ∧ down.target 1 = some 0 ∧ (down.sourceLink 0).link = .down)
      ∧ (sharing none).powered = true ∧ ((sharing none).deskLink 0).link.live = true ∧ (sharing none).target 0 = some 0
      ∧ ((sharing none).sourceLink 0).link.live = true ∧ (sharing none).control 0 = .shared [0, 1]
      ∧ ((sharing none).input 0).sharer = none ∧ (sharing none).quiet ∧ ((sharing none).input 0).queue.length < 16
      ∧ ((sharing none).input 0).pointerTail 0 = none
      ∧ (((sharing (some ⟨1, 0⟩)).input 0).sharer = some ⟨1, 0⟩ ∧ (1 : Desk) ≠ 0
        ∧ (sharing (some ⟨1, 0⟩)).now < 0 + ((sharing (some ⟨1, 0⟩)).settings.sources[(0 : Source)]).shareInterval) := by
  refine ⟨?_, ?_, ?_, ?_, ?_, ?_, ?_, quiet_of _ ?_, ?_⟩ <;> decide +kernel

/-- The active sharer reports to a queue with room, with room and its own pointer entry last, and full; an idle one is taken over
from with 14 entries queued. -/
theorem witness_ReportsReachTheTarget_sharers :
    let mine (q : List InputEntry) : State := sharingWith (some ⟨0, 0⟩) q
    let point : InputEntry := ⟨0, .pointer 2047 (-2047) 127 1⟩
    let short := mine (List.replicate 14 keysEntry ++ [point])
    let full := mine (List.replicate 16 keysEntry)
    let idle : State := { sharingWith (some ⟨1, 0⟩) (List.replicate 14 keysEntry) with now := 800 }
    let stands (s : State) (a : Sharer) : Prop := s.powered = true ∧ (s.deskLink 0).link.live = true ∧ s.target 0 = some 0
      ∧ (s.sourceLink 0).link.live = true ∧ s.control 0 = .shared [0, 1] ∧ (s.input 0).sharer = some a
    (stands short ⟨0, 0⟩ ∧ (short.input 0).queue.length < 16 ∧ (short.input 0).pointerTail 0 = some (2047, -2047, 127, 1)
      ∧ (1 : Byte).truncate 5 = (1 : BitVec 5) ∧ (1 : BitVec 5) ≠ (0 : Byte).truncate 5)
    ∧ (stands full ⟨0, 0⟩ ∧ 16 ≤ (full.input 0).queue.length ∧ (full.input 0).pointerTail 0 = none)
    ∧ idle.quiet ∧ idle.Bounded ∧ stands idle ⟨1, 0⟩ ∧ (1 : Desk) ≠ 0 ∧ 0 + (idle.settings.sources[(0 : Source)]).shareInterval ≤ idle.now
    ∧ (idle.input 0).queue.length < 15 := by
  have keys : ({ InputPath.fresh with sharer := some ⟨1, 0⟩, queue := List.replicate 14 keysEntry } : InputPath).Bounded :=
    ⟨by decide, fun e m => List.eq_of_mem_replicate m ▸ trivial, by simp [InputPath.fresh]⟩
  refine ⟨?_, ?_, quiet_of _ ?_, bounded_with (s := { sharing (some ⟨1, 0⟩) with now := 800 }) (bounded_of _ ?_ ?_ ?_) 0 keys, ?_⟩
    <;> decide +kernel

theorem witness_RequestsAtIntake :
    let c : Instr := .connect 0 [7, 0, 0, 0]
    let q : Request := ⟨7, .connect 0 0 0⟩
    let one : State := { room with requests := room.requests.set 0 asking }
    let two : State := { room with requests := room.requests.set 0 { asking with waiting := some q } }
    let rows (p : List Byte) : List Instr :=
      [.connect 0 p, .disconnect 0 p, .scan 0 p, .recall 0 p, .take 0 p, .share 0 p, .release 0 p, .withdraw 0 p]
    room.powered = true ∧ stackedRequest c = some (0, q) ∧ (State.reset.deskLink 0).link.live = false
      ∧ (room.deskLink 0).link.live = true
      ∧ ((locked .soft none).lockHas fun k => if q.body.isConnection then k.connections else k.control) = true
      ∧ (room.lockHas fun k => if q.body.isConnection then k.connections else k.control) = false
      ∧ ((notified.noticeList 0).any fun a => a.kind = .preempted ∨ a.kind = .forced) = true
      ∧ (notified.noticeList 0).head? = some ⟨.forced, none, some 0, false⟩
      ∧ ((room.noticeList 0).any fun a => a.kind = .preempted ∨ a.kind = .forced) = false
      ∧ one.stack 0 = { executing := some ⟨⟨7, .connect 0 0 0⟩, .inFlight⟩, waiting := none }
      ∧ two.stack 0 = { executing := some ⟨⟨7, .connect 0 0 0⟩, .inFlight⟩, waiting := some q }
      ∧ Phase.inFlight ≠ .step1
      -- no payload of 0 or 8 bytes fits any of the eight
      ∧ (∀ r ∈ rows [] ++ rows [7, 0, 0, 0, 0, 0, 0, 0], stackedRequest r = none) := by decide +kernel

theorem witness_ConnectChecksInOrder :
    room.quiet ∧ room.canAsk 0 true = true ∧ (room.deskLink 0).screenCount ≤ (4 : Byte).toNat ∧ 24 ≤ (24 : Byte).toNat
      ∧ 4 ≤ (4 : Byte).toNat ∧ (room.sourceLink 0).headCount ≤ (2 : HeadIx).val
      ∧ (3 : ScreenIx).val < (room.deskLink 0).screenCount ∧ (1 : HeadIx).val < (room.sourceLink 0).headCount
      ∧ ((staged .armed).quiet ∧ (staged .armed).canAsk 0 true = true ∧ ((staged .armed).markedBy ⟨0, 0⟩).isSome = true)
      ∧ ((withRights .noRight).quiet ∧ (withRights .noRight).canAsk 0 true = true ∧ (withRights .noRight).markedBy ⟨0, 0⟩ = none
        ∧ (withRights .noRight).right 0 0 = .noRight)
      ∧ (privately.quiet ∧ privately.canAsk 0 true = true ∧ privately.markedBy ⟨0, 0⟩ = none ∧ privately.right 0 0 ≠ .noRight
        ∧ privately.privateToOther 0 0 = true) := by
  refine ⟨room_quiet, ?_, ?_, ?_, ?_, ?_, ?_, ?_, ⟨quiet_of _ ?_, ?_⟩, ⟨quiet_of _ ?_, ?_⟩, quiet_of _ ?_, ?_⟩ <;> decide +kernel

theorem witness_ConnectBringsUp :
    room.quiet ∧ room.Bounded ∧ room.canAsk 15 true = true ∧ room.screenExists ⟨15, 3⟩ = true
      ∧ room.headExists ⟨23, 1⟩ = true ∧ room.headExists ⟨23, 0⟩ = true ∧ room.markedBy ⟨15, 3⟩ = none
      ∧ (room.right 15 23).atLeast .view = true ∧ room.privateToOther 23 15 = false ∧ room.connsAt ⟨15, 3⟩ = []
      ∧ room.lowestFree = some 0 ∧ room.headActive ⟨23, 1⟩ = false
      ∧ room.headActive ⟨23, 0⟩ = true ∧ (room.tier ⟨23, 0⟩).change = none ∧ room.fitsNow [⟨⟨23, 0⟩, ⟨15, 3⟩⟩] = true := by
  refine ⟨room_quiet, room_bounded, ?_⟩; decide +kernel

theorem witness_DisconnectClearsScreen :
    let small := deskAt { liveDesk with screenCount := 1 }
    (small.quiet ∧ small.Bounded ∧ small.canAsk 0 true = true ∧ small.screenExists ⟨0, 1⟩ = false ∧ small.command = none
      ∧ (small.deskLink 0).link.live = true)
    ∧ ((staged .armed).quiet ∧ (staged .armed).Bounded ∧ (staged .armed).canAsk 0 true = true
      ∧ (staged .armed).screenExists ⟨0, 0⟩ = true ∧ ((staged .armed).markedBy ⟨0, 0⟩).isSome = true ∧ (staged .armed).command = none)
    ∧ (room.quiet ∧ room.Bounded ∧ room.canAsk 0 true = true ∧ room.screenExists ⟨0, 3⟩ = true ∧ room.markedBy ⟨0, 3⟩ = none
      ∧ room.connsAt ⟨0, 3⟩ = [] ∧ room.command = none ∧ (room.deskLink 0).link.live = true)
    ∧ (viewing.quiet ∧ viewing.Bounded ∧ viewing.canAsk 0 true = true ∧ viewing.screenExists ⟨0, 0⟩ = true
      ∧ viewing.markedBy ⟨0, 0⟩ = none ∧ viewing.connsAt ⟨0, 0⟩ = [conn ⟨0, 0⟩ .live none] ∧ (conn ⟨0, 0⟩ .live none).inFlight = false
      ∧ viewing.drives 0 0 = false ∧ (viewing.claims 0).any (·.desk = 0) = false ∧ viewing.command = none)
    ∧ ((State.reset.deskLink 0).link.live = false ∧ State.reset.markedBy ⟨0, 0⟩ = none ∧ State.reset.connsAt ⟨0, 0⟩ = []
      ∧ State.reset.command = none) := by
  refine ⟨⟨quiet_of _ ?_, bounded_of _ ?_ ?_ ?_, ?_⟩, ⟨quiet_of _ ?_, bounded_of _ ?_ ?_ ?_, ?_⟩, ⟨room_quiet, room_bounded, ?_⟩,
    ⟨viewing_quiet, viewing_bounded, ?_⟩, ?_⟩ <;> decide +kernel

/-- No tier may be raised, and head 0 of a source charges more than the source may carry. -/
def tight (x : Source) (s : State) : State := { s with
  settings := { s.settings with sources := Vector.replicate 24 ⟨3, 0, 0, 0, 800⟩ }
  tiers := s.tiers.set x #v[⟨0, some 708, none, some 0⟩, .fresh 0, .fresh 0, .fresh 0] }

/-- Head 0 of a source may be raised, and charges more than the source may carry at tier 0. -/
def heavy (x : Source) (s : State) : State := { s with
  settings := { s.settings with sources := Vector.replicate 24 ⟨3, 3, 0, 0, 800⟩ }
  tiers := s.tiers.set x #v[⟨0, some 200, none, some 0⟩, .fresh 0, .fresh 0, .fresh 0] }

/-- The placements do not fit, and no tier can be raised for them. -/
def tightly (s : State) (pl : List Placement) : Prop := s.fits [] pl = false
  ∧ ∀ g ∈ s.overflowing [] pl, s.tierLimit g ≤ (s.tier g).tier ∧ (s.tier g).change = none

theorem witness_ScanStartsOnFirstHead :
    let l (x : Source) (k : HeadIx) : List HeadId := ⟨x, k⟩ :: List.replicate 15 ⟨1, 1⟩
    let listed (s : State) (l : List HeadId) (h : HeadId) : Prop := s.canAsk 0 true = true ∧ s.screenExists ⟨0, 0⟩ = true
      ∧ 2 ≤ l.length ∧ l.length ≤ 16 ∧ l.head? = some h
      ∧ (∀ g ∈ l, s.headExists g = true ∧ (s.right 0 g.source).atLeast .view = true) ∧ s.markedBy ⟨0, 0⟩ = none
      ∧ s.privateToOther h.source 0 = false ∧ s.connsAt ⟨0, 0⟩ = [] ∧ s.lowestFree = some 0
    (room.quiet ∧ room.Bounded ∧ (tight 1 room).quiet ∧ (tight 1 room).Bounded)
    ∧ (listed room (l 0 1) ⟨0, 1⟩ ∧ room.headActive ⟨0, 1⟩ = false)
    ∧ (listed room [⟨1, 0⟩, ⟨0, 0⟩] ⟨1, 0⟩ ∧ room.headActive ⟨1, 0⟩ = true ∧ (room.tier ⟨1, 0⟩).change = none
      ∧ room.fitsNow [⟨⟨1, 0⟩, ⟨0, 0⟩⟩] = true)
    ∧ (listed (tight 1 room) (l 1 0) ⟨1, 0⟩ ∧ (tight 1 room).headActive ⟨1, 0⟩ = true ∧ ((tight 1 room).tier ⟨1, 0⟩).change = none
      ∧ (tight 1 room).fitsNow [⟨⟨1, 0⟩, ⟨0, 0⟩⟩] = false ∧ tightly (tight 1 room) [⟨⟨1, 0⟩, ⟨0, 0⟩⟩]
      ∧ (tight 1 room).drives 0 1 = false ∧ ((tight 1 room).claims 1).any (·.desk = 0) = false)
    ∧ word16 0 0 = 0 ∧ word16 2 0 = 2 ∧ word16 0x58 2 = 600 ∧ word16 0x59 2 = 601
    ∧ ([(0, 0)] : List (Byte × Byte)).length < 2 ∧ 16 < (List.replicate 17 ((0, 0) : Byte × Byte)).length := by
  refine ⟨⟨room_quiet, room_bounded, quiet_of _ ?_, bounded_of _ ?_ ?_ ?_⟩, ?_⟩ <;> first
    | decide +kernel
    | (simp only [tightly]; decide +kernel)

/-- An entry for head 0 of source 1, which is ACTIVE, behind a BLANK one. -/
def activeEntries : List StageEntry := [⟨⟨0, 1⟩, .blank⟩, ⟨⟨0, 0⟩, .head ⟨1, 0⟩⟩]

theorem witness_RecallCommitsPreset :
    let busy : State := { room with command := some .presetErase, store := { room.store with op := some (.erasePreset 1) } }
    (room.quiet ∧ room.canAsk 0 true = true ∧ 32 ≤ (32 : Byte).toNat ∧ room.store.op = none ∧ room.store.presets[(0 : PresetIx)] = .blank)
    ∧ (busy.powered = true ∧ busy.canAsk 0 true = true ∧ busy.store.op = some (.erasePreset 1)
      ∧ busy.command = some (StoreOp.erasePreset 1).command)
    ∧ ((presets .corrupt).quiet ∧ (presets .corrupt).canAsk 0 true = true ∧ (presets .corrupt).store.op = none
      ∧ (presets .corrupt).store.presets[(0 : PresetIx)] = .corrupt)
    ∧ ((presets goodPreset).quiet ∧ (presets goodPreset).canAsk 0 true = true ∧ (presets goodPreset).canAsk 1 true = true
      ∧ (presets goodPreset).store.op = none
      ∧ (presets goodPreset).store.presets[(0 : PresetIx)] = .valid [entry] (some (checkValue (presetImage [entry])))
      ∧ (∃ e ∈ [entry], e.screen.desk ≠ 1)
      ∧ (∀ e ∈ [entry], e.screen.desk = 0 ∧ (presets goodPreset).entryReady (.desk 0) e = true)
      ∧ ([entry].map (·.screen)).Nodup ∧ ((presets goodPreset).slot 0).state = .empty
      ∧ (∀ j : SlotIx, j < 0 → ((presets goodPreset).slot j).state ≠ .empty)) := by
  refine ⟨⟨room_quiet, ?_⟩, ?_, ⟨quiet_of _ ?_, ?_⟩, quiet_of _ ?_, ?_⟩ <;> decide +kernel

theorem witness_RecallCommitsPreset_active :
    let preset : Preset := .valid activeEntries (some (checkValue (presetImage activeEntries)))
    let s := presets preset
    let u := tight 1 s
    let pl (s : State) : List Placement := s.activePlacements (placementsOf (activeEntries.map SlotEntry.load))
    let stands (s : State) : Prop := s.canAsk 0 true = true ∧ s.store.op = none ∧ s.store.presets[(0 : PresetIx)] = preset
      ∧ (∀ e ∈ activeEntries, e.screen.desk = 0 ∧ s.entryPasses (.desk 0) e = true) ∧ (activeEntries.map (·.screen)).Nodup
      ∧ (s.slot 0).state = .empty ∧ (∀ j : SlotIx, j < 0 → (s.slot j).state ≠ .empty)
      ∧ pl s = [⟨⟨1, 0⟩, ⟨0, 0⟩⟩] ∧ (∀ p ∈ pl s, (s.tier p.head).change = none)
    (s.quiet ∧ u.quiet) ∧ (stands s ∧ s.fits [] (pl s) = true)
    ∧ (stands u ∧ tightly u (pl u) ∧ (activeEntries.take 0).any (u.entryOverflows (pl u)) = false
      ∧ activeEntries[1]?.any (u.entryOverflows (pl u)) = true) := by
  refine ⟨⟨quiet_of _ ?_, quiet_of _ ?_⟩, ?_, ?_⟩ <;> first
    | decide +kernel
    | (simp only [tightly]; decide +kernel)

/-- A preset whose second entry fails: for its head, for the desk's right, for a slot's mark, or for privacy. -/
theorem witness_RecallCommitsPreset_failing :
    let es (k : ScreenIx) (h : HeadId) : List StageEntry := [⟨⟨0, 1⟩, .blank⟩, ⟨⟨0, k⟩, .head h⟩]
    let hold (s : State) (l : List StageEntry) : State := { s with store := { s.store with
      presets := s.store.presets.set 0 (.valid l (some (checkValue (presetImage l)))) } }
    let stands (s : State) (l : List StageEntry) (i : SlotIx) (e : StageEntry) : Prop := s.quiet ∧ s.canAsk 0 true = true
      ∧ s.store.op = none ∧ s.store.presets[(0 : PresetIx)] = .valid l (some (checkValue (presetImage l)))
      ∧ (∀ f ∈ l, f.screen.desk = 0) ∧ (l.map (·.screen)).Nodup ∧ (s.slot i).state = .empty
      ∧ (∀ j, j < i → (s.slot j).state ≠ .empty) ∧ (∀ f ∈ l.take 1, s.entryPasses (.desk 0) f = true) ∧ l[1]? = some e
      ∧ s.screenExists e.screen = true
    let beyond := hold room (es 0 ⟨0, 2⟩)
    let barred := hold (withRights .noRight) (es 0 ⟨0, 0⟩)
    let marked := hold (staged .armed) (es 0 ⟨1, 0⟩)
    let hidden := hold privately (es 0 ⟨0, 0⟩)
    (stands beyond (es 0 ⟨0, 2⟩) 0 ⟨⟨0, 0⟩, .head ⟨0, 2⟩⟩ ∧ beyond.headExists ⟨0, 2⟩ = false)
    ∧ (stands barred (es 0 ⟨0, 0⟩) 0 ⟨⟨0, 0⟩, .head ⟨0, 0⟩⟩ ∧ barred.headExists ⟨0, 0⟩ = true
      ∧ (barred.right 0 0).atLeast .view = false)
    ∧ (stands marked (es 0 ⟨1, 0⟩) 1 ⟨⟨0, 0⟩, .head ⟨1, 0⟩⟩ ∧ marked.headExists ⟨1, 0⟩ = true
      ∧ (marked.right 0 1).atLeast .view = true ∧ (marked.markedBy ⟨0, 0⟩).isSome = true)
    ∧ (stands hidden (es 0 ⟨0, 0⟩) 0 ⟨⟨0, 0⟩, .head ⟨0, 0⟩⟩ ∧ hidden.headExists ⟨0, 0⟩ = true
      ∧ (hidden.right 0 0).atLeast .view = true ∧ (hidden.markedBy ⟨0, 0⟩).isSome = false ∧ hidden.privateToOther 0 0 = true) := by
  refine ⟨⟨⟨quiet_of _ ?_, ?_⟩, ?_⟩, ⟨⟨quiet_of _ ?_, ?_⟩, ?_⟩, ⟨⟨quiet_of _ ?_, ?_⟩, ?_⟩, ⟨quiet_of _ ?_, ?_⟩, ?_⟩ <;> decide +kernel

theorem witness_TakeAndShareOfFreeSource :
    let sees (s : State) : Prop := ∃ c ∈ s.conns, c.screen.desk = 0 ∧ c.head.source = 0 ∧ c.state ≠ .fault
    let own : State := { viewing with settings := (withRights .priv).settings }
    ((withRights .view).quiet ∧ (withRights .view).canAsk 0 false = true ∧ ((withRights .view).right 0 0).atLeast .control = false
      ∧ ((withRights .view).right 0 0).atLeast .share = false)
    ∧ (room.quiet ∧ room.canAsk 0 false = true ∧ (room.right 0 0).atLeast .control = true ∧ (room.right 0 0).atLeast .share = true
      ∧ (room.right 0 0).atLeast .priv = false ∧ ¬ sees room)
    ∧ (own.quiet ∧ own.canAsk 0 false = true ∧ own.controlRecord 0 = { control := .free, claims := [] }
      ∧ own.noRelationBut 0 0 = true ∧ own.target 0 = none ∧ sees own ∧ (own.right 0 0).atLeast .priv = true
      ∧ (own.right 0 0).atLeast .share = true
      ∧ (∀ c ∈ own.conns, c.head.source = 0 → c.screen.desk = 0 ∧ c.state ≠ .suspended .privacy)
      ∧ ∀ i, (own.slot i).state ≠ .armed) := by
  refine ⟨⟨quiet_of _ ?_, ?_⟩, ⟨room_quiet, ?_⟩, quiet_of _ ?_, ?_⟩ <;> decide +kernel

theorem witness_TakeOfHeldSource :
    let claim (d : Desk) : Claim := ⟨d, 0, .exclusive, d.val⟩
    let full := queued [claim 2, claim 3, claim 4, claim 5]
    let nearly := queued [claim 2, claim 3, claim 4]
    let ranked : State := { held with settings := { held.settings with
      desks := held.settings.desks.set 0 ⟨7, 3, 60⟩ } }
    (nearly.claims 0).Pairwise Claim.before
    ∧ (full.quiet ∧ full.canAsk 0 false = true ∧ full.control 0 = .held .exclusive 1 0 ∧ (1 : Desk) ≠ 0 ∧ full.noRelationBut 0 0 = true
      ∧ (full.claims 0).any (·.desk = 0) = false ∧ (full.right 0 0).atLeast .control = true
      ∧ (∃ c ∈ full.conns, c.screen.desk = 0 ∧ c.head.source = 0 ∧ c.state ≠ .fault) ∧ 4 ≤ (full.claims 0).length
      ∧ ¬ (full.settings.desks[(1 : Desk)]).rank < (full.settings.desks[(0 : Desk)]).rank)
    ∧ (nearly.quiet ∧ nearly.canAsk 0 false = true ∧ nearly.control 0 = .held .exclusive 1 0 ∧ nearly.noRelationBut 0 0 = true
      ∧ (nearly.claims 0).any (·.desk = 0) = false ∧ (nearly.right 0 0).atLeast .control = true
      ∧ (∃ c ∈ nearly.conns, c.screen.desk = 0 ∧ c.head.source = 0 ∧ c.state ≠ .fault) ∧ (nearly.claims 0).length < 4
      ∧ (∀ a ∈ nearly.claims 0, a.stamp ≠ nearly.arrivals + 1)
      ∧ nearly.now < 0 + 1000 * (nearly.settings.sources[(0 : Source)]).controlTimeout)
    ∧ (ranked.quiet ∧ ranked.canAsk 0 false = true ∧ ranked.control 0 = .held .exclusive 1 0 ∧ ranked.noRelationBut 0 0 = true
      ∧ (ranked.claims 0).any (·.desk = 0) = false ∧ (ranked.right 0 0).atLeast .control = true
      ∧ (∃ c ∈ ranked.conns, c.screen.desk = 0 ∧ c.head.source = 0 ∧ c.state ≠ .fault)
      ∧ (ranked.settings.desks[(1 : Desk)]).rank < (ranked.settings.desks[(0 : Desk)]).rank
      ∧ ranked.noRelationBut 1 0 = true ∧ ranked.target 1 = some 0) := by
  refine ⟨?_, ⟨quiet_of _ ?_, ?_⟩, ⟨quiet_of _ ?_, ?_⟩, quiet_of _ ?_, ?_⟩
  · show List.Pairwise (fun a b : Claim => b.rank < a.rank ∨ a.rank = b.rank ∧ a.stamp < b.stamp) _; decide +kernel
  all_goals decide +kernel

theorem witness_ReleaseFreesSource :
    let wants := queued [⟨0, 0, .exclusive, 1⟩]
    (held.quiet ∧ held.canAsk 1 false = true ∧ held.controlRecord 0 = { control := .held .exclusive 1 0, claims := [] }
      ∧ held.noRelationBut 1 0 = true ∧ held.target 1 = some 0 ∧ held.command = none)
    ∧ (held.canAsk 0 false = true ∧ (∀ y, held.drives 0 y = false) ∧ ∀ y, (held.claims y).any (·.desk = 0) = false)
    ∧ (wants.quiet ∧ wants.canAsk 0 false = true ∧ (wants.claims 0).any (·.desk = 0) = true
      ∧ ∀ y, y ≠ 0 → (wants.claims y).any (·.desk = 0) = false)
    ∧ held.control 23 = .free := by
  refine ⟨⟨held_quiet, ?_⟩, ?_, ⟨quiet_of _ ?_, ?_⟩, ?_⟩ <;> decide +kernel

theorem witness_IdleHolderGivesWay :
    let c : Claim := ⟨0, 0, .exclusive, 1⟩
    let s := queued [c]
    let barred : State := { s with roomLock := some ⟨⟨true, true, true, true⟩, .soft, none⟩ }
    let endless : State := { held with settings := { held.settings with
      sources := held.settings.sources.set 0 ⟨3, 3, 0, 0, 800⟩ } }
    (endless.powered = true ∧ (endless.settings.sources[(0 : Source)]).controlTimeout = 0)
    ∧ (held.control 1 = .free ∧ (sharing none).powered = true ∧ (sharing none).control 0 = .shared [0, 1])
    ∧ (barred.powered = true ∧ (barred.settings.sources[(0 : Source)]).controlTimeout ≠ 0 ∧ barred.control 0 = .held .exclusive 1 0
      ∧ barred.lockHas (·.control) = true)
    ∧ (held.powered = true ∧ (held.settings.sources[(0 : Source)]).controlTimeout ≠ 0 ∧ held.control 0 = .held .exclusive 1 0
      ∧ held.claims 0 = [])
    ∧ (s.quiet ∧ (s.settings.sources[(0 : Source)]).controlTimeout ≠ 0 ∧ s.lockHas (·.control) = false
      ∧ s.controlRecord 0 = { control := .held .exclusive 1 0, claims := [c] } ∧ c.mode = .exclusive ∧ c.desk ≠ 1
      ∧ (s.deskLink c.desk).link.live = true ∧ (∃ q ∈ s.conns, q.screen.desk = c.desk ∧ q.head.source = 0 ∧ q.state ≠ .fault)
      ∧ (s.right c.desk 0).atLeast .control = true ∧ s.noRelationBut 1 0 = true ∧ s.noRelationBut c.desk 0 = true) := by
  refine ⟨?_, ?_, ?_, ?_, quiet_of _ ?_, ?_⟩ <;> decide +kernel

theorem witness_ImmediateRequestsAnswered :
    room.powered = true ∧ (State.reset.deskLink 0).link.live = false ∧ (room.deskLink 0).link.live = true
      ∧ room.noticeList 0 = [] ∧ notified.noticeList 0 = ⟨.forced, none, some 0, false⟩ :: []
      ∧ (room.deskLink 0).screenCount ≤ (4 : Byte).toNat ∧ (3 : ScreenIx).val < (room.deskLink 0).screenCount
      ∧ 24 ≤ (24 : Byte).toNat ∧ (withRights .noRight).right 0 0 = .noRight ∧ room.right 0 23 ≠ .noRight := by decide +kernel

/-- The records of a desk that is lost: one beside another desk's, one at step 4, and a new one that its request brings up. -/
theorem witness_DeskIsLostOrGoesDown_records :
    let c : Conn := { conn ⟨0, 0⟩ .switching (some .switch) with answerTo := some .desk }
    let s : State := { switching with conns := [c] }
    let four : Conn := { conn ⟨0, 0⟩ .switching (some .lock) with answerTo := some .desk }
    let alone (s : State) : Prop := ∀ y, s.drives 0 y = false ∧ (s.claims y).any (·.desk = 0) = false
    let fresh (c : Conn) : Prop := c.answerTo = some .desk ∧ c.step ≠ some .lock ∧ c.prior = none
    ((held.quiet ∧ held.Bounded) ∧ (s.quiet ∧ s.Bounded))
    ∧ (alone held ∧ (held.settings.desks[(0 : Desk)]).grace ≠ 0 ∧ other ∈ held.conns ∧ other.screen.desk ≠ 0
      ∧ conn ⟨0, 0⟩ .live none ∈ held.conns ∧ ¬ fresh (conn ⟨0, 0⟩ .live none))
    ∧ (alone switching ∧ four ∈ switching.conns ∧ four.state = .switching ∧ ¬ fresh four)
    ∧ (alone s ∧ c ∈ s.conns ∧ (s.stack 0).executing.any (·.phase = .inFlight)
      ∧ (s.conns.find? fun c => c.screen.desk = 0 && c.answerTo = some .desk) = some c ∧ fresh c) := by
  refine ⟨⟨⟨held_quiet, bounded_of _ ?_ ?_ ?_⟩, quiet_of _ ?_, bounded_of _ ?_ ?_ ?_⟩, ?_⟩ <;> decide +kernel

theorem witness_DeskIsLostOrGoesDown :
    let s := deskAt { liveDesk with link := .initial, initialTimer := some 10000, silenceTimer := none }
    let brief : State := { viewing with settings := { viewing.settings with desks := viewing.settings.desks.set 0 ⟨0, 3, 0⟩ } }
    let link : DeskLink := { liveDesk with link := .lost, silenceTimer := none, graceTimer := some 60000 }
    let lost : State := { viewing with deskLinks := viewing.deskLinks.set 0 link }
    (viewing.quiet ∧ viewing.Bounded ∧ (∀ y, viewing.drives 0 y = false ∧ (viewing.claims y).any (·.desk = 0) = false))
    ∧ (lost.quiet ∧ lost.Bounded ∧ (∀ y, lost.drives 0 y = false ∧ (lost.claims y).any (·.desk = 0) = false))
    ∧ (viewing.powered = true ∧ (viewing.deskLink 0).link = .up ∧ (viewing.deskLink 0).silenceTimer = some 3000
      ∧ (s.powered = true ∧ (s.deskLink 0).link = .initial ∧ (s.deskLink 0).initialTimer = some 10000
        ∧ (s.deskLink 0).frameSince = false ∧ (s.deskLink 0).link ≠ .up)
      ∧ (brief.settings.desks[(0 : Desk)]).grace = 0 ∧ (State.reset.deskLink 0).link.live = false
      ∧ (lost.powered = true ∧ (lost.deskLink 0).graceTimer = some 60000) ∧ (viewing.deskLink 0).graceTimer = none
      ∧ viewing.command = none ∧ 1 < (2 : Byte).toNat ∧ 16 ≤ (16 : Byte).toNat ∧ 24 ≤ (24 : Byte).toNat) := by
  refine ⟨⟨viewing_quiet, viewing_bounded, ?_⟩, ⟨quiet_of _ ?_, bounded_of _ ?_ ?_ ?_, ?_⟩, ?_⟩ <;> decide +kernel

/-- A room lock of tiers ends: the delay expired under it, the walk having stopped or ended; or the walk had begun before. -/
theorem witness_RestorationDelayEnds_lockEnds :
    let lock : RoomLock := ⟨⟨true, false, true, true⟩, .soft, some 500⟩
    let ended (s : State) : State := { s with roomLock := some lock, expiredUnderLock := true }
    let raised : State := { viewing with tiers := viewing.tiers.set 0 (viewing.tiers[0].set 0 ⟨1, some 60, none, some 1⟩) }
    let w : Walk := ⟨headPlace ⟨0, 0⟩, none, some ⟨0, 0⟩, false, []⟩
    let stopped : State := { raised with roomLock := some lock, restoration := .walking w }
    let past : State := { raised with roomLock := some lock, restoration := .walking { w with next := 1 } }
    let lowered (s : State) (g : HeadId) : Bool := s.carried g && (s.settings.sources[g.source]).preferredTier < (s.tier g).tier
      && (s.tier g).change.isNone && s.lowerFits g
    let ends (s : State) : Prop := s.restorationInFlight = false ∧ s.roomLock = some lock ∧ s.command = none
    (lock.sens.tiers = true ∧ lock.sens.control = false ∧ lock.due = some 500)
    ∧ ((ended room).quiet ∧ ends (ended room) ∧ ∀ x k, lowered (ended room) ⟨x, k⟩ = false)
    ∧ ((ended raised).quiet ∧ ends (ended raised) ∧ lowered (ended raised) ⟨0, 0⟩ = true
      ∧ ∀ x k, headPlace ⟨x, k⟩ < headPlace ⟨0, 0⟩ → lowered (ended raised) ⟨x, k⟩ = false)
    ∧ (({ stopped with restoration := .idle } : State).quiet ∧ ends stopped ∧ stopped.expiredUnderLock = false
      ∧ lowered stopped ⟨0, 0⟩ = true ∧ w.next ≤ headPlace ⟨0, 0⟩
      ∧ ∀ x k, w.next ≤ headPlace ⟨x, k⟩ → headPlace ⟨x, k⟩ < headPlace ⟨0, 0⟩ → lowered stopped ⟨x, k⟩ = false)
    ∧ (({ past with restoration := .idle } : State).quiet ∧ ends past ∧ past.expiredUnderLock = false
      ∧ ∀ x k, 1 ≤ headPlace ⟨x, k⟩ → lowered past ⟨x, k⟩ = false) := by
  refine ⟨?_, ⟨quiet_of _ ?_, ?_⟩, ⟨quiet_of _ ?_, ?_⟩, ⟨quiet_of _ ?_, ?_⟩, quiet_of _ ?_, ?_⟩ <;> decide +kernel

/-- A route pending for a record that has come to step 3, and a request and a force that await the frame event. -/
theorem witness_HouseFrameAppliesPending :
    let due : State := { switching with
      conns := [{ conn ⟨0, 0⟩ .switching (some .switch) with answerTo := some .desk }]
      positions := switching.positions.set 0 ⟨.card .blank, some (.route ⟨0, 0⟩), none⟩
      requests := switching.requests.set 1 ⟨some ⟨⟨9, .disconnect 0⟩, .frame⟩, none⟩
      command := some (.forceDisconnect ⟨2, 0⟩ .frame) }
    due.quiet ∧ due.Bounded := by
  refine ⟨quiet_of _ ?_, bounded_of _ ?_ ?_ ?_⟩ <;> decide +kernel

theorem witness_RestorationDelayEnds :
    let idle : State := { room with restoration := .delaying 2000 }
    let barred : State := { locked .soft none with restoration := .delaying 2000 }
    let raised : State := { viewing with
      restoration := .delaying 2000
      tiers := viewing.tiers.set 0 (viewing.tiers[0].set 0 ⟨1, some 60, none, some 1⟩) }
    let stopped : State := { raised with roomLock := barred.roomLock }
    let tested (s : State) (g : HeadId) : Bool := s.carried g && (s.settings.sources[g.source]).preferredTier < (s.tier g).tier
      && (s.tier g).change.isNone
    let lowered (s : State) (g : HeadId) : Bool := tested s g && s.lowerFits g
    (room.powered = true ∧ room.restoration.delayTimer = none)
    ∧ (barred.quiet ∧ barred.restoration = .delaying 2000 ∧ barred.lockHas (·.tiers) = true
      ∧ barred.restorationInFlight = false ∧ ∀ x k, tested barred ⟨x, k⟩ = false)
    ∧ (stopped.quiet ∧ stopped.restoration = .delaying 2000 ∧ stopped.lockHas (·.tiers) = true
      ∧ stopped.restorationInFlight = false ∧ tested stopped ⟨0, 0⟩ = true
      ∧ ∀ x k, headPlace ⟨x, k⟩ < headPlace ⟨0, 0⟩ → tested stopped ⟨x, k⟩ = false)
    ∧ (idle.quiet ∧ idle.restoration = .delaying 2000 ∧ idle.lockHas (·.tiers) = false ∧ idle.restorationInFlight = false
      ∧ ∀ x k, lowered idle ⟨x, k⟩ = false)
    ∧ (raised.quiet ∧ raised.restoration = .delaying 2000 ∧ raised.lockHas (·.tiers) = false ∧ raised.restorationInFlight = false
      ∧ lowered raised ⟨0, 0⟩ = true ∧ ∀ x k, headPlace ⟨x, k⟩ < headPlace ⟨0, 0⟩ → lowered raised ⟨x, k⟩ = false) := by
  refine ⟨?_, ⟨quiet_of _ ?_, ?_⟩, ⟨quiet_of _ ?_, ?_⟩, ⟨quiet_of _ ?_, ?_⟩, quiet_of _ ?_, ?_⟩ <;> decide +kernel

theorem witness_DwellExpiryStepsScan :
    let stay := scanningRoom [⟨0, 0⟩, ⟨1, 1⟩]
    let go := scanningRoom [⟨0, 0⟩, ⟨1, 0⟩]
    let q (g : HeadId) : Scan := ⟨[⟨0, 0⟩, g], 1, 10, .running 10000, false⟩
    let fit (s : State) (g : HeadId) : Bool := s.headExists g && s.headActive g && decide (g ≠ scanning.head)
      && !s.privateToOther g.source 0 && (s.right 0 g.source).atLeast .view && s.fitsNow [⟨g, ⟨0, 0⟩⟩]
    let order : List Nat := (List.range 2).filter (fun i => 1 ≤ i) ++ (List.range 2).filter (fun i => i + 1 < 1)
    (room.powered = true ∧ room.dwellTimer ⟨0, 0⟩ = none)
    ∧ (stay.calm = true ∧ stay.Bounded ∧ stay.screenConn ⟨0, 0⟩ = some { scanning with scan := some (q ⟨1, 1⟩) }
      ∧ scanning.inFlight = false ∧ scanning.state = .live
      ∧ (∀ i ∈ order, ((q ⟨1, 1⟩).list[i]?).any (fit stay) = false) ∧ stay.drives 0 0 = false ∧ stay.lockHas (·.scans) = false)
    ∧ (go.calm = true ∧ go.Bounded ∧ go.screenConn ⟨0, 0⟩ = some { scanning with scan := some (q ⟨1, 0⟩) }
      ∧ order.find? (fun i => ((q ⟨1, 0⟩).list[i]?).any (fit go)) = some (2 - 1) ∧ (q ⟨1, 0⟩).list[2 - 1]? = some ⟨1, 0⟩
      ∧ go.drives 0 0 = false ∧ (go.claims 0).any (·.desk = 0) = false) := by
  refine ⟨?_, ⟨?_, bounded_of _ ?_ ?_ ?_, ?_⟩, ?_, bounded_of _ ?_ ?_ ?_, ?_⟩ <;> decide +kernel

theorem witness_SlotArmsDisarmsCommits :
    let gone : State := { staged .loaded with deskLinks := (staged .loaded).deskLinks.set 0 (.fresh none) }
    let es : List SlotEntry := [⟨entry, false, false⟩]
    (room.quiet ∧ room.command = none ∧ (room.slot 0).state ≠ .loaded ∧ (room.slot 0).state ≠ .armed ∧ (room.slot 0).holdTimer = none)
    ∧ ((staged .loaded).quiet ∧ (staged .loaded).command = none ∧ ((staged .loaded).slot 0).state = .loaded
      ∧ ((staged .loaded).slot 0).owner = some .supervisor ∧ ((staged .loaded).slot 0).entries = es
      ∧ ∀ e ∈ es, (staged .loaded).entryReady .supervisor e.entry = true)
    ∧ (gone.quiet ∧ gone.command = none ∧ (gone.slot 0).state = .loaded ∧ (gone.slot 0).owner = some .supervisor
      ∧ (gone.slot 0).entries = es ∧ es.take 0 = [] ∧ es[0]? = some ⟨entry, false, false⟩
      ∧ (gone.deskLink entry.screen.desk).link.live = false)
    ∧ ((staged .armed).quiet ∧ (staged .armed).command = none ∧ ((staged .armed).slot 0).state = .armed
      ∧ ((((staged .armed).slot 0).entries).map (·.entry.screen)).Nodup ∧ ((staged .armed).slot 0).holdTimer = some 60000) := by
  refine ⟨⟨room_quiet, ?_⟩, ⟨quiet_of _ ?_, ?_⟩, ⟨quiet_of _ ?_, ?_⟩, quiet_of _ ?_, ?_⟩ <;> decide +kernel

theorem witness_SlotArmsDisarmsCommits_active :
    let es := activeEntries.map SlotEntry.load
    let loaded (s : State) : State := { s with
      slots := s.slots.set 0 { Slot.fresh with state := .loaded, owner := some .supervisor, entries := es } }
    let s := loaded room
    let u := loaded (tight 1 room)
    let v := loaded (heavy 1 room)
    let pl (s : State) : List Placement := s.activePlacements (placementsOf es)
    let stands (s : State) : Prop := s.command = none ∧ (s.slot 0).state = .loaded ∧ (s.slot 0).owner = some .supervisor
      ∧ (s.slot 0).entries = es ∧ (∀ e ∈ es, s.entryPasses .supervisor e.entry = true) ∧ pl s = [⟨⟨1, 0⟩, ⟨0, 0⟩⟩]
      ∧ (∀ p ∈ pl s, (s.tier p.head).change = none)
    (s.quiet ∧ u.quiet ∧ v.quiet) ∧ (stands s ∧ s.fits [] (pl s) = true)
    ∧ (stands u ∧ tightly u (pl u) ∧ (es.take 0).any (fun e => u.entryOverflows (pl u) e.entry) = false
      ∧ es[1]?.any (fun e => u.entryOverflows (pl u) e.entry) = true)
    ∧ (stands v ∧ v.fits [] (pl v) = false ∧ v.fits (v.raiseLoop (pl v) 288 []) (pl v) = true) := by
  refine ⟨⟨quiet_of _ ?_, quiet_of _ ?_, quiet_of _ ?_⟩, ?_, ?_, ?_⟩ <;> first
    | decide +kernel
    | (simp only [tightly]; decide +kernel)

/-- A slot whose second entry fails: for its screen or its head, for another slot's mark, or for privacy. -/
theorem witness_SlotArmsDisarmsCommits_failing :
    let load (s : State) (e : SlotEntry) : State := { s with slots := s.slots.set 1 { Slot.fresh with
      state := .loaded, owner := some .supervisor, entries := [⟨⟨⟨0, 1⟩, .blank⟩, false, false⟩, e] } }
    let target (k : ScreenIx) (h : HeadId) : SlotEntry := ⟨⟨⟨0, k⟩, .head h⟩, false, false⟩
    let stands (s : State) (e : SlotEntry) : Prop := s.quiet ∧ s.command = none ∧ (s.slot 1).state = .loaded
      ∧ (s.slot 1).owner = some .supervisor ∧ (s.slot 1).entries[1]? = some e
      ∧ (∀ f ∈ (s.slot 1).entries.take 1, s.entryPasses .supervisor f.entry = true)
      ∧ (s.deskLink e.entry.screen.desk).link.live = true
    let few := load (deskAt { liveDesk with screenCount := 3 }) (target 3 ⟨0, 0⟩)
    let beyond := load room (target 0 ⟨0, 2⟩)
    let marked := load (staged .armed) (target 0 ⟨1, 0⟩)
    let hidden := load privately (target 0 ⟨0, 0⟩)
    (stands few (target 3 ⟨0, 0⟩) ∧ few.screenExists ⟨0, 3⟩ = false)
    ∧ (stands beyond (target 0 ⟨0, 2⟩) ∧ beyond.headExists ⟨0, 2⟩ = false)
    ∧ (stands marked (target 0 ⟨1, 0⟩) ∧ marked.screenExists ⟨0, 0⟩ = true ∧ marked.headExists ⟨1, 0⟩ = true
      ∧ (marked.markedBy ⟨0, 0⟩).isSome = true)
    ∧ (stands hidden (target 0 ⟨0, 0⟩) ∧ hidden.screenExists ⟨0, 0⟩ = true ∧ hidden.headExists ⟨0, 0⟩ = true
      ∧ (hidden.markedBy ⟨0, 0⟩).isSome = false ∧ hidden.privateToOther 0 0 = true) := by
  refine ⟨⟨⟨quiet_of _ ?_, ?_⟩, ?_⟩, ⟨⟨quiet_of _ ?_, ?_⟩, ?_⟩, ⟨⟨quiet_of _ ?_, ?_⟩, ?_⟩, ⟨quiet_of _ ?_, ?_⟩, ?_⟩ <;> decide +kernel

theorem witness_SetDeskAndRights :
    let q : List Claim := [⟨2, 0, .exclusive, 1⟩, ⟨0, 0, .exclusive, 2⟩, ⟨3, 0, .priv, 4⟩]
    let s := queued q
    let pair : Source × Right := (0, .view)
    (room.quiet ∧ room.command = none ∧ (room.claims 0).any (·.desk = 0) = false ∧ (∀ y, y ≠ 0 → (room.claims y).any (·.desk = 0) = false))
    ∧ (s.quiet ∧ s.powered = true ∧ s.command = none ∧ (∀ y, y ≠ 0 → (s.claims y).any (·.desk = 0) = false)
      ∧ (s.claims 0).any (·.desk = 0) = true ∧ min 7 (5 : Byte).toNat ≠ (s.settings.desks[(0 : Desk)]).rank
      ∧ min 7 (0 : Byte).toNat = (s.settings.desks[(0 : Desk)]).rank
      ∧ ((s.claims 0).map fun c => if c.desk = 0 then { c with rank := 5 } else c).Pairwise (fun c e => c.stamp ≠ e.stamp))
    ∧ (1 ≤ [pair].length ∧ (List.replicate 24 pair).length ≤ 24 ∧ 16 ≤ (16 : Byte).toNat)
    ∧ (24 < (List.replicate 25 ((0, 0) : Byte × Byte)).length ∧ 24 ≤ (24 : Byte).toNat ∧ 5 ≤ (5 : Byte).toNat) := by
  refine ⟨⟨room_quiet, ?_⟩, ⟨quiet_of _ ?_, ?_⟩, ?_⟩ <;> decide +kernel

theorem witness_SetSourceAndRoom :
    let carried : Prop := ((List.finRange 4).any fun k => viewing.carried ⟨0, k⟩ || viewing.staged ⟨0, k⟩ || viewing.holds ⟨0, k⟩) = true
    let limit : Tier := tierOf (0 : Byte).toNat
    viewing.powered = true ∧ viewing.command = none
      ∧ (carried ∧ limit ≠ (viewing.settings.sources[(0 : Source)]).tierLimit ∧ (2 : Byte).getLsbD 1 = true)
      ∧ ¬ (((List.finRange 4).any fun k => room.carried ⟨0, k⟩ || room.staged ⟨0, k⟩ || room.holds ⟨0, k⟩) = true)
      ∧ 24 ≤ (24 : Byte).toNat ∧ (32 ≤ (32 : Byte).toNat ∧ (32 : Byte) ≠ 255 ∧ (16 : Byte).getLsbD 4 = true) ∧ (32 : Byte) ≠ 255
      ∧ (254 : Byte) ≠ 255 ∧ (0 : Byte).getLsbD 4 = false
      ∧ (room.quiet ∧ room.powered = true ∧ room.command = none ∧ (room.settings.sources[(0 : Source)]).preferredTier ≠ 1
        ∧ min (room.settings.sources[(0 : Source)]).tierLimit (tierOf (1 : Byte).toNat) = 1 ∧ (4 : Byte).getLsbD 2 = true
        ∧ (4 : Byte).getLsbD 3 = false) := by
  refine ⟨?_, ?_, ?_, ?_, ?_, ?_, ?_, ?_, ?_, room_quiet, ?_⟩ <;> decide +kernel

theorem witness_ForceConnectOnEmptyScreen :
    let small := deskAt { liveDesk with screenCount := 1 }
    (small.quiet ∧ small.Bounded ∧ small.command = none ∧ (small.deskLink 0).link.live = true ∧ small.screenExists ⟨0, 1⟩ = false
      ∧ small.headExists ⟨0, 2⟩ = false)
    ∧ ((staged .armed).quiet ∧ (staged .armed).Bounded ∧ (staged .armed).command = none ∧ (staged .armed).screenExists ⟨0, 0⟩ = true
      ∧ (staged .armed).headExists ⟨0, 1⟩ = true ∧ ((staged .armed).markedBy ⟨0, 0⟩).isSome = true)
    ∧ (room.quiet ∧ room.Bounded ∧ room.command = none ∧ room.screenExists ⟨0, 0⟩ = true ∧ room.headExists ⟨0, 1⟩ = true
      ∧ room.markedBy ⟨0, 0⟩ = none ∧ room.connsAt ⟨0, 0⟩ = [] ∧ room.lowestFree = some 0 ∧ (room.deskLink 0).link.live = true
      ∧ room.headActive ⟨0, 1⟩ = false ∧ room.privateToOther 0 0 = false)
    ∧ (State.reset.quiet ∧ State.reset.command = none ∧ (State.reset.deskLink 0).link.live = false
      ∧ State.reset.headExists ⟨0, 3⟩ = true ∧ State.reset.markedBy ⟨0, 3⟩ = none ∧ State.reset.connsAt ⟨0, 3⟩ = []
      ∧ State.reset.lowestFree = some 0) := by
  refine ⟨⟨quiet_of _ ?_, bounded_of _ ?_ ?_ ?_, ?_⟩, ⟨quiet_of _ ?_, bounded_of _ ?_ ?_ ?_, ?_⟩, ⟨room_quiet, room_bounded, ?_⟩,
    reset_quiet, ?_⟩ <;> decide +kernel

theorem witness_ForceConnectOnEmptyScreen_active :
    let u := tight 1 room
    let stands (s : State) (x : Source) : Prop := s.command = none ∧ s.screenExists ⟨0, 0⟩ = true ∧ s.headExists ⟨x, 0⟩ = true
      ∧ s.markedBy ⟨0, 0⟩ = none ∧ s.connsAt ⟨0, 0⟩ = [] ∧ s.lowestFree = some 0 ∧ (s.deskLink 0).link.live = true
    ((privately.quiet ∧ privately.Bounded) ∧ u.quiet ∧ u.Bounded)
    ∧ (stands privately 0 ∧ privately.privateToOther 0 0 = true ∧ (privately.noticeList 0).length < 3 ∧ privately.noticeList 0 = [])
    ∧ (stands room 1 ∧ room.headActive ⟨1, 0⟩ = true ∧ room.privateToOther 1 0 = false ∧ (room.tier ⟨1, 0⟩).change = none
      ∧ room.fitsNow [⟨⟨1, 0⟩, ⟨0, 0⟩⟩] = true)
    ∧ (stands u 1 ∧ u.headActive ⟨1, 0⟩ = true ∧ u.privateToOther 1 0 = false ∧ (u.tier ⟨1, 0⟩).change = none
      ∧ u.fitsNow [⟨⟨1, 0⟩, ⟨0, 0⟩⟩] = false ∧ tightly u [⟨⟨1, 0⟩, ⟨0, 0⟩⟩] ∧ u.drives 0 1 = false
      ∧ (u.claims 1).any (·.desk = 0) = false) := by
  refine ⟨⟨⟨quiet_of _ ?_, bounded_of _ ?_ ?_ ?_⟩, quiet_of _ ?_, bounded_of _ ?_ ?_ ?_⟩, ?_, ?_, ?_⟩ <;> first
    | decide +kernel
    | (simp only [tightly]; decide +kernel)

theorem witness_StageLoadsAndClears :
    (room.powered = true ∧ room.command = none ∧ (room.slot 0).state = .empty ∧ (room.slot 0).arming = none ∧ room.quiet
      ∧ 1 ≤ [entry].length ∧ (List.replicate 16 entry).length ≤ 16 ∧ room.store.presets[(0 : PresetIx)] = .blank)
    ∧ ((presets goodPreset).powered = true ∧ (presets goodPreset).command = none ∧ ((presets goodPreset).slot 0).state = .empty
      ∧ (presets goodPreset).quiet
      ∧ (presets goodPreset).store.presets[(0 : PresetIx)] = .valid [entry] (some (checkValue (presetImage [entry]))))
    ∧ ((presets (.valid [entry] (some 0))).store.presets[(0 : PresetIx)] = .valid [entry] (some 0)
      ∧ 0 ≠ checkValue (presetImage [entry]))
    ∧ ((staged .armed).powered = true ∧ (staged .armed).command = none
      ∧ ¬ ((((staged .armed).slot 0).state = .empty ∨ ((staged .armed).slot 0).state = .loaded) ∧ ((staged .armed).slot 0).arming = none))
    ∧ (4 ≤ (4 : Byte).toNat ∧ 32 ≤ (32 : Byte).toNat ∧ 16 < (List.replicate 17 entry).length
      ∧ (16 ≤ (16 : Byte).toNat ∧ 2 ≤ (2 : Byte).toNat ∧ 24 ≤ (24 : Byte).toNat))
    ∧ ((presets .corrupt).powered = true ∧ (presets .corrupt).command = none ∧ ((presets .corrupt).slot 0).state = .empty
      ∧ ((presets .corrupt).slot 0).arming = none ∧ (presets .corrupt).store.presets[(0 : PresetIx)] = .corrupt) := by
  refine ⟨⟨?_, ?_, ?_, ?_, room_quiet, ?_⟩, ⟨?_, ?_, ?_, quiet_of _ ?_, ?_⟩, ?_⟩ <;> decide +kernel

theorem witness_SettingsAreSaved :
    room.powered = true ∧ room.command = none ∧ room.quiet
      ∧ (saving.powered = true ∧ saving.store.op = some (.saveSettings Settings.factory) ∧ saving.command = some .saveSettings) :=
  ⟨rfl, rfl, room_quiet, rfl, rfl, rfl⟩

theorem witness_StageToPresetWrites :
    let full : State := { staged .loaded with store := (presets goodPreset).store }
    let writing : State := { room with command := some .stageToPreset, store := { room.store with op := some (.writePreset 0 [entry]) } }
    (room.powered = true ∧ room.command = none ∧ room.store.op = none ∧ 4 ≤ (4 : Byte).toNat ∧ 32 ≤ (32 : Byte).toNat
      ∧ ¬ (((room.slot 0).state = .loaded ∨ (room.slot 0).state = .armed) ∧ (room.slot 0).arming = none
        ∧ (room.slot 0).owner = some .supervisor))
    ∧ (full.powered = true ∧ (full.slot 0).state = .loaded ∧ (full.slot 0).arming = none ∧ (full.slot 0).owner = some .supervisor
      ∧ full.command = none ∧ full.store.presets[(0 : PresetIx)] ≠ .blank ∧ full.store.presets[(31 : PresetIx)] = .blank)
    ∧ (writing.powered = true ∧ writing.store.op = some (.writePreset 0 [entry]) ∧ writing.command = some .stageToPreset) := by
  decide +kernel

theorem witness_PresetsErasedAndChecked :
    let s := presets goodPreset
    let erasing : State := { s with command := some .presetErase, store := { s.store with op := some (.erasePreset 0) } }
    s.powered = true ∧ s.command = none ∧ 32 ≤ (32 : Byte).toNat
      ∧ s.store.presets[(0 : PresetIx)] = .valid [entry] (some (checkValue (presetImage [entry])))
      ∧ (1 : Byte).toNat + (31 : Byte).toNat ≤ 32 ∧ 1 ≤ (1 : Byte).toNat
      ∧ (∀ p : PresetIx, (1 : Byte).toNat ≤ p.val ∧ p.val < (1 : Byte).toNat + (31 : Byte).toNat → s.store.presets[p] = .blank)
      ∧ ((0 : Byte).toNat + (32 : Byte).toNat ≤ 32 ∧ (0 : Byte).toNat ≤ (0 : PresetIx).val
        ∧ (0 : PresetIx).val < (0 : Byte).toNat + (32 : Byte).toNat ∧ s.store.presets[(0 : PresetIx)] ≠ .blank
        ∧ ∀ p : PresetIx, (0 : Byte).toNat ≤ p.val ∧ p.val < (0 : Byte).toNat + (32 : Byte).toNat → p < 0 → s.store.presets[p] = .blank)
      ∧ 32 < (1 : Byte).toNat + (32 : Byte).toNat ∧ (0 : Byte) = 0
      ∧ (erasing.powered = true ∧ erasing.store.op = some (.erasePreset 0) ∧ erasing.command = some .presetErase)
      ∧ (chosen goodPreset).store.region.room.startPreset = some 0 := by decide +kernel

theorem witness_SupervisoryQueriesAnswered :
    room.powered = true ∧ room.command = none ∧ (83 : Byte).toNat ≤ 83 ∧ 83 < (84 : Byte).toNat ∧ 16 ≤ (16 : Byte).toNat
      ∧ 24 ≤ (24 : Byte).toNat ∧ 2 < (3 : Byte).toNat := by decide +kernel

theorem witness_RoomLockStandsAndEnds :
    (room.powered = true ∧ room.command = none ∧ (room.roomLock = none ∧ room.expiredUnderLock = false) ∧ room.quiet
      ∧ (1 ≤ (1 : Byte).toNat ∧ (15 : Byte).toNat ≤ 15 ∧ (1 : Byte).toNat ≤ 1 ∧ (0 : Byte) = 0)
      ∧ ¬ (1 ≤ (0 : Byte).toNat ∧ (0 : Byte).toNat ≤ 15 ∧ (0 : Byte).toNat ≤ 1)
      ∧ ¬ (1 ≤ (16 : Byte).toNat ∧ (16 : Byte).toNat ≤ 15 ∧ (0 : Byte).toNat ≤ 1) ∧ (room.roomLock.bind (·.due)) = none)
    ∧ ((locked .hard (some 500)).powered = true ∧ (locked .hard (some 500)).command = none
      ∧ (locked .hard (some 500)).roomLock = some ⟨⟨true, true, true, true⟩, .hard, some 500⟩) := by
  refine ⟨⟨?_, ?_, ?_, room_quiet, ?_⟩, ?_⟩ <;> decide +kernel

/-- One request of desk 0, in a phase given, with another that waits: all that a HARD lock may find. -/
def lockable (p : Phase) (w : Option Request) (cs : List Conn) (r : RequestBody) : State := { switching with
  conns := cs
  slots := switching.slots.set 0 { slotOf .committing with stage := some .beforeEvent, owner := some (.desk 0) }
  requests := switching.requests.set 0 ⟨some ⟨⟨7, r⟩, p⟩, w⟩ }

/-- The clauses of a HARD lock: a request that stays with a TAKE, in or out of the set, waiting; one held at step 1; one in
flight, new or re-admitted; and a RECALL before its frame event. -/
theorem witness_RoomLockStandsAndEnds_hard :
    let connect : RequestBody := .connect 0 0 0
    let q (p : Option RecordState) : Conn :=
      { conn ⟨0, 0⟩ .switching (some .switch) with answerTo := some .desk, prior := p }
    let step4 : Conn := { conn ⟨0, 0⟩ .switching (some .lock) with answerTo := some .desk }
    let w : Option Request := some ⟨8, .take 0 0 0⟩
    let off (s : State) : State := { s with requests := s.requests.set 0 { executing := none, waiting := none } }
    let bare (s : State) : State := { off s with slots := (off s).slots.set 0 Slot.fresh }
    let framed := { lockable .frame w [] (.disconnect 0) with slots := room.slots }
    let late := { lockable .inFlight w [step4] connect with slots := room.slots }
    let holding := { lockable (.held [.transfer ⟨0, 0⟩ none]) none [] connect with slots := room.slots }
    let new := { lockable .inFlight none [q none] connect with slots := room.slots }
    let again := { lockable .inFlight none [q (some .fault)] connect with slots := room.slots }
    let recalling := lockable (.recall 0) none [] (.recall 0)
    let asked (s : State) (e : Executing) : Prop := s.command = none ∧ s.roomLock = none ∧ s.expiredUnderLock = false ∧ (s.deskLink 0).link.live = true
      ∧ (s.stack 0).executing = some e ∧ ∀ b, b ≠ 0 → (s.stack b).executing = none
    ((off framed).quiet ∧ asked framed ⟨⟨7, .disconnect 0⟩, .frame⟩)
    ∧ ((off late).quiet ∧ asked late ⟨⟨7, connect⟩, .inFlight⟩ ∧ late.requestedConn 0 = some step4 ∧ step4.step = some .lock
      ∧ (⟨true, true, false, false⟩ : Sensitivity).control = true ∧ (⟨true, false, false, false⟩ : Sensitivity).control = false)
    ∧ ((off holding).quiet ∧ asked holding ⟨⟨7, connect⟩, .held [.transfer ⟨0, 0⟩ none]⟩ ∧ (holding.stack 0).waiting = none)
    ∧ (((off new).quiet ∧ new.Bounded) ∧ asked new ⟨⟨7, connect⟩, .inFlight⟩ ∧ connect.isConnection = true
      ∧ (new.stack 0).waiting = none ∧ new.requestedConn 0 = some (q none) ∧ (q none).step ≠ some .lock
      ∧ new.drives 0 0 = false ∧ (new.claims 0).any (·.desk = 0) = false ∧ (q none).prior ≠ some (.suspended .budget))
    ∧ (((off again).quiet ∧ again.Bounded) ∧ asked again ⟨⟨7, connect⟩, .inFlight⟩
      ∧ again.requestedConn 0 = some (q (some .fault)) ∧ (q (some .fault)).step ≠ some .lock
      ∧ again.drives 0 0 = false ∧ (again.claims 0).any (·.desk = 0) = false ∧ (q (some .fault)).prior ≠ some (.suspended .budget))
    ∧ ((bare recalling).quiet ∧ asked recalling ⟨⟨7, .recall 0⟩, .recall 0⟩ ∧ (recalling.slot 0).recallOpen = true
      ∧ (recalling.stack 0).waiting = none) := by
  refine ⟨⟨quiet_of _ ?_, ?_⟩, ⟨quiet_of _ ?_, ?_⟩, ⟨quiet_of _ ?_, ?_⟩, ⟨⟨quiet_of _ ?_, bounded_of _ ?_ ?_ ?_⟩, ?_⟩,
    ⟨⟨quiet_of _ ?_, bounded_of _ ?_ ?_ ?_⟩, ?_⟩, quiet_of _ ?_, ?_⟩ <;> decide +kernel

theorem witness_StartUpLoadsStore_none :
    let off : State := { presets goodPreset with powered := false }
    off.powered = false ∧ off.store.regionCheck = some (checkValue off.store.region.image)
      ∧ off.store.region.room.startPreset = none ∧ (∀ d : Desk, (off.store.region.desks[d]).grace ≠ 0)
      ∧ room.powered = true ∧ room.command = none :=
  ⟨rfl, rfl, rfl, by decide +kernel, rfl, rfl⟩

theorem witness_StartUpLoadsStore_preset :
    (chosen goodPreset).store.regionCheck = some (checkValue (chosen goodPreset).store.region.image)
      ∧ (chosen .blank).store.regionCheck = some (checkValue (chosen .blank).store.region.image)
      ∧ (chosen goodPreset).powered = true ∧ (chosen goodPreset).command = none ∧ (chosen goodPreset).store.op = none
      ∧ startsWith0.room.startPreset = some 0 ∧ (∀ d : Desk, (startsWith0.desks[d]).grace ≠ 0)
      ∧ (chosen goodPreset).store.presets[(0 : PresetIx)] = .valid [entry] (some (checkValue (presetImage [entry])))
      ∧ (chosen .blank).store.presets[(0 : PresetIx)] = .blank ∧ (chosen .corrupt).store.presets[(0 : PresetIx)] = .corrupt
      ∧ [entry].length ≤ 64 :=
  ⟨rfl, rfl, rfl, rfl, rfl, rfl, by decide +kernel, by decide +kernel, by decide +kernel, by decide +kernel, by decide +kernel⟩


/-! ### Replacement, same-head connections, forces, admissions and commits -/

/-- One record on screen 0 of desk 0, with what it shows. -/
def showing (c : Conn) (shown : Content) : State := { room with
  conns := [c], positions := room.positions.set 0 ⟨shown, none, none⟩ }

/-- What a replacement of the record of screen 0 is: its transfer handle, its head, its requester. -/
def replacing (head : HeadId) (st : RecordState) (who : Requester) : Conn := { conn head st none with
  handle := 64, step := if st = .switching then some .switch else none, replaces := some 0, answerTo := some who, posted := true }

def full (r : Conn) (due : Content) : State := { viewing with
  conns := viewing.conns ++ [r], positions := viewing.positions.set 0 ⟨.route ⟨0, 0⟩, some due, none⟩ }

/-- Desk 0 has asked for a head in place of what screen 0 shows. -/
def asks (x : Byte) (hd : Byte) (s : State) : State := { s with
  requests := s.requests.set 0 ⟨some ⟨⟨7, .connect 0 x hd⟩, .inFlight⟩, none⟩ }

theorem witness_ReplacementCompletes_begun :
    let c := conn ⟨0, 0⟩ .live none
    let s := tight 1 viewing
    let begins (s : State) (head : HeadId) : Prop := s.canAsk 0 true = true ∧ s.screenExists ⟨0, 0⟩ = true
      ∧ s.headExists head = true ∧ s.markedBy ⟨0, 0⟩ = none ∧ (s.right 0 head.source).atLeast .view = true
      ∧ s.privateToOther head.source 0 = false ∧ s.connsAt ⟨0, 0⟩ = [c] ∧ c.inFlight = false ∧ c.head ≠ head
      ∧ s.conn? (64 + (0 : Desk)) = none
    (viewing.quiet ∧ viewing.Bounded ∧ begins viewing ⟨1, 1⟩ ∧ viewing.headActive ⟨1, 1⟩ = false)
    ∧ (begins viewing ⟨1, 0⟩ ∧ viewing.headActive ⟨1, 0⟩ = true ∧ (viewing.tier ⟨1, 0⟩).change = none
      ∧ viewing.fitsNow [⟨⟨1, 0⟩, ⟨0, 0⟩⟩] = true)
    ∧ (s.quiet ∧ s.Bounded ∧ begins s ⟨1, 0⟩ ∧ s.headActive ⟨1, 0⟩ = true ∧ (s.tier ⟨1, 0⟩).change = none
      ∧ s.fitsNow [⟨⟨1, 0⟩, ⟨0, 0⟩⟩] = false
      ∧ (∀ g ∈ s.overflowing [] [⟨⟨1, 0⟩, ⟨0, 0⟩⟩], s.tierLimit g ≤ (s.tier g).tier ∧ (s.tier g).change = none)
      ∧ s.drives 0 1 = false ∧ (s.claims 1).any (·.desk = 0) = false
      ∧ c.state ≠ .admitting ∧ s.isDue ⟨0, 0⟩ (s.contentDue c) = true) := by
  refine ⟨⟨viewing_quiet, viewing_bounded, ?_⟩, ?_, quiet_of _ ?_, bounded_of _ ?_ ?_ ?_, ?_⟩ <;> decide +kernel

theorem witness_ReplacementCompletes_completed :
    let c := conn ⟨0, 0⟩ .live none
    let switches := replacing ⟨1, 0⟩ .switching .desk
    let waits := replacing ⟨1, 1⟩ .waiting .force
    let s := asks 1 0 (full switches (.route ⟨1, 0⟩))
    let u : State := { full waits (.card .noSignal) with command := some (.forceConnect ⟨0, 0⟩ ⟨1, 1⟩ .inFlight) }
    let stands (s : State) (r : Conn) : Prop := s.connsAt ⟨0, 0⟩ = [c, r] ∧ r.handle = 64 + (0 : Desk)
      ∧ r.replaces = some c.handle ∧ c.inFlight = false ∧ r.posted = true ∧ r.auto = none ∧ r.scan = none
      ∧ (s.without c.handle).lowestFree = some 0 ∧ s.drives 0 c.source = false ∧ (s.claims c.source).any (·.desk = 0) = false
      ∧ ∀ q ∈ s.chargedPlacements, q.screen ≠ ⟨0, 0⟩
    ((s.without 64).quiet ∧ s.Bounded ∧ stands s switches
      ∧ (s.stack 0).executing = some ⟨⟨7, .connect 0 1 0⟩, .inFlight⟩ ∧ (s.deskLink 0).link.live = true
      ∧ (s.position ⟨0, 0⟩).pending = some (.route ⟨1, 0⟩) ∧ switches.state = .switching ∧ switches.step = some .switch
      ∧ switches.answerTo.isSome)
    ∧ ((u.without 64).quiet ∧ u.Bounded ∧ stands u waits ∧ u.command = some (.forceConnect ⟨0, 0⟩ waits.head .inFlight)
      ∧ (u.position ⟨0, 0⟩).pending = some (.card .noSignal) ∧ waits.state = .waiting ∧ waits.step = none ∧ waits.answerTo.isSome
      ∧ .card .noSignal = u.contentDue waits) := by
  refine ⟨⟨quiet_of _ ?_, bounded_of _ ?_ ?_ ?_, ?_⟩, quiet_of _ ?_, bounded_of _ ?_ ?_ ?_, ?_⟩ <;> decide +kernel

/-- The checks that a CONNECT on screen 0 of desk 0 passes, in the words of the statements. -/
def passes (s : State) (c : Conn) : Prop := s.canAsk 0 true = true ∧ s.screenExists ⟨0, 0⟩ = true
  ∧ s.headExists c.head = true ∧ s.markedBy ⟨0, 0⟩ = none ∧ (s.right 0 c.source).atLeast .view = true
  ∧ s.privateToOther c.source 0 = false ∧ s.connsAt ⟨0, 0⟩ = [c] ∧ c.inFlight = false

theorem witness_SameHeadConnections_asked :
    let off (s : State) : State := { s.unscanned (·.handle = 0) with resumption := { s.resumption with list := [] } }
    let c (h : HeadId) (st : RecordState) := conn h st none
    let s (h : HeadId) (st : RecordState) (p : Content) : State := showing (c h st) p
    let budget : State := { tight 0 (s ⟨0, 0⟩ (.suspended .budget) (.card .bandwidth)) with resumption := ⟨[0], false, none, false⟩ }
    ((off viewing).quiet ∧ viewing.Bounded ∧ (off (scanningRoom [⟨0, 0⟩, ⟨1, 0⟩])).quiet ∧ (scanningRoom [⟨0, 0⟩, ⟨1, 0⟩]).Bounded)
    ∧ (((off (s ⟨0, 0⟩ .fault (.card .fault))).quiet ∧ (s ⟨0, 0⟩ .fault (.card .fault)).Bounded)
      ∧ ((off (s ⟨0, 1⟩ .fault (.card .fault))).quiet ∧ (s ⟨0, 1⟩ .fault (.card .fault)).Bounded)
      ∧ ((off (s ⟨0, 0⟩ .switching (.route ⟨0, 0⟩))).quiet ∧ (s ⟨0, 0⟩ .switching (.route ⟨0, 0⟩)).Bounded)
      ∧ ((off budget).quiet ∧ budget.Bounded))
    ∧ (passes viewing (c ⟨0, 0⟩ .live) ∧ passes (scanningRoom [⟨0, 0⟩, ⟨1, 0⟩]) scanning ∧ scanning.state = .live)
    ∧ passes (s ⟨0, 0⟩ .switching (.route ⟨0, 0⟩)) (c ⟨0, 0⟩ .switching)
    ∧ (passes (s ⟨0, 1⟩ .fault (.card .fault)) (c ⟨0, 1⟩ .fault) ∧ room.headActive ⟨0, 1⟩ = false)
    ∧ (passes (s ⟨0, 0⟩ .fault (.card .fault)) (c ⟨0, 0⟩ .fault) ∧ room.headActive ⟨0, 0⟩ = true ∧ (room.tier ⟨0, 0⟩).change = none
      ∧ (s ⟨0, 0⟩ .fault (.card .fault)).fitsNow [⟨⟨0, 0⟩, ⟨0, 0⟩⟩] = true ∧ (c ⟨0, 0⟩ .fault).prior = none)
    ∧ (passes budget (c ⟨0, 0⟩ (.suspended .budget)) ∧ budget.headActive ⟨0, 0⟩ = true ∧ (budget.tier ⟨0, 0⟩).change = none
      ∧ budget.fitsNow [⟨⟨0, 0⟩, ⟨0, 0⟩⟩] = false
      ∧ (∀ g ∈ budget.overflowing [] [⟨⟨0, 0⟩, ⟨0, 0⟩⟩], budget.tierLimit g ≤ (budget.tier g).tier ∧ (budget.tier g).change = none)
      ∧ budget.isDue ⟨0, 0⟩ (budget.contentDue (c ⟨0, 0⟩ (.suspended .budget))) = true) := by
  refine ⟨⟨quiet_of _ ?_, viewing_bounded, quiet_of _ ?_, bounded_of _ ?_ ?_ ?_⟩, ⟨⟨quiet_of _ ?_, bounded_of _ ?_ ?_ ?_⟩, ⟨quiet_of _ ?_, bounded_of _ ?_ ?_ ?_⟩,
    ⟨quiet_of _ ?_, bounded_of _ ?_ ?_ ?_⟩, ⟨quiet_of _ ?_, bounded_of _ ?_ ?_ ?_⟩⟩, ?_⟩ <;>
    first | decide +kernel | (simp only [passes]; decide +kernel)

theorem witness_SameHeadConnections_held :
    let c := conn ⟨0, 0⟩ (.suspended .privacy) none
    let busy : Conn := { conn ⟨1, 0⟩ .admitting (some .admission) with handle := 1, screen := ⟨5, 0⟩, auto := some .readmission }
    let s : State := { showing c (.card .privacy) with
      conns := [c, busy]
      readmissions := [⟨0, .privacyChange⟩]
      admissions := [⟨0, .record 1, [⟨⟨1, 0⟩, ⟨5, 0⟩⟩], .own⟩]
      tiers := room.tiers.set 1 (room.tiers[1].set 0 ⟨0, some 60, some ⟨0, 1, .admission 0, 500⟩, some 1⟩) }
    s.Bounded ∧ s.powered = true ∧ s.dueWork = none ∧ s.movedTargets = [] ∧ passes s c ∧ c.state = .suspended .privacy
      ∧ s.readmissions.any (·.handle = c.handle) = true := by
  refine ⟨bounded_of _ ?_ ?_ ?_, ?_⟩ <;> first | decide +kernel | (simp only [passes]; decide +kernel)

theorem witness_SameHeadConnections_forced :
    let c := conn ⟨0, 3⟩ (.suspended .deskAbsent) none
    let s : State := { State.reset with conns := [c] }
    let u := scanningRoom [⟨0, 0⟩, ⟨1, 0⟩]
    let forced (s : State) (c : Conn) : Prop := s.command = none ∧ s.headExists c.head = true ∧ s.markedBy ⟨0, 0⟩ = none
      ∧ s.connsAt ⟨0, 0⟩ = [c] ∧ c.inFlight = false
    ((u.unscanned (·.handle = 0)).quiet ∧ u.Bounded ∧ forced u scanning ∧ (u.deskLink 0).link.live = true
      ∧ u.screenExists ⟨0, 0⟩ = true ∧ scanning.state = .live)
    ∧ ((s.unscanned (·.handle = 0)).quiet ∧ s.Bounded ∧ forced s c ∧ (s.deskLink 0).link.live = false
      ∧ c.state = .suspended .deskAbsent) := by
  refine ⟨⟨quiet_of _ ?_, bounded_of _ ?_ ?_ ?_, ?_⟩, quiet_of _ ?_, bounded_of _ ?_ ?_ ?_, ?_⟩ <;> decide +kernel

theorem witness_ForceSupersedesRequest :
    let q : Request := ⟨7, .connect 0 0 0⟩
    let mine (step : BringUpStep) (p : Option RecordState) : Conn :=
      { conn ⟨0, 0⟩ .switching (some step) with answerTo := some .desk, prior := p }
    let s (c : Conn) : State := asks 0 0 (showing c (.card .blank))
    let c := conn ⟨0, 0⟩ .live none
    let r := replacing ⟨1, 0⟩ .switching .desk
    let u := asks 1 0 (full r (.route ⟨1, 0⟩))
    let stands (s : State) (q : Request) : Prop := s.command = none ∧ s.markedBy ⟨0, 0⟩ = none ∧ (s.deskLink 0).link.live = true
      ∧ s.screenExists ⟨0, 0⟩ = true ∧ (s.stack 0).executing = some ⟨q, .inFlight⟩
    let free (s : State) (g : HeadId) : Prop := s.drives 0 g.source = false ∧ (s.claims g.source).any (·.desk = 0) = false
    let away (s : State) (x : Source) (hd : HeadIx) : Prop := s.headExists ⟨x, hd⟩ = true ∧ s.headActive ⟨x, hd⟩ = false
      ∧ s.privateToOther x 0 = false
    let asked (c : Conn) : Prop := stands (s c) q ∧ (s c).connsAt ⟨0, 0⟩ = [c] ∧ c.answerTo = some .desk ∧ free (s c) c.head
    (((s (mine .switch none)).quiet ∧ (s (mine .switch none)).Bounded)
      ∧ ((s (mine .switch (some .fault))).quiet ∧ (s (mine .switch (some .fault))).Bounded)
      ∧ ((s (mine .lock none)).quiet ∧ (s (mine .lock none)).Bounded) ∧ (u.without 64).quiet ∧ u.Bounded)
    ∧ (asked (mine .switch none) ∧ (mine .switch none).step ≠ some .lock ∧ (mine .switch none).prior = none
      ∧ away (s (mine .switch none)) 1 1 ∧ ((s (mine .switch none)).without 0).lowestFree = some 0)
    ∧ (asked (mine .switch (some .fault)) ∧ (mine .switch (some .fault)).prior.isSome ∧ away (s (mine .switch (some .fault))) 1 1
      ∧ (s (mine .switch (some .fault))).conn? (64 + (0 : Desk)) = none ∧ (⟨1, 1⟩ : HeadId) ≠ ⟨0, 0⟩
      ∧ RecordState.fault ≠ .admitting ∧ RecordState.fault ≠ .suspended .budget)
    ∧ (asked (mine .lock none) ∧ (mine .lock none).step = some .lock ∧ away (s (mine .lock none)) 1 1
      ∧ (s (mine .lock none)).conn? (64 + (0 : Desk)) = none ∧ (mine .lock none).state = .switching
      ∧ (s (mine .lock none)).headExists ⟨0, 0⟩ = true)
    ∧ (stands u ⟨7, .connect 0 1 0⟩ ∧ u.connsAt ⟨0, 0⟩ = [c, r] ∧ r.handle = 64 + (0 : Desk) ∧ r.replaces = some c.handle
      ∧ r.auto = none ∧ r.answerTo = some .desk ∧ r.step ≠ some .lock ∧ r.prior = none ∧ c.inFlight = false
      ∧ c.state ≠ .admitting ∧ free u c.head ∧ free u r.head ∧ away u 1 1 ∧ (⟨1, 1⟩ : HeadId) ≠ c.head) := by
  refine ⟨⟨⟨quiet_of _ ?_, bounded_of _ ?_ ?_ ?_⟩, ⟨quiet_of _ ?_, bounded_of _ ?_ ?_ ?_⟩, ⟨quiet_of _ ?_, bounded_of _ ?_ ?_ ?_⟩,
    quiet_of _ ?_, bounded_of _ ?_ ?_ ?_⟩, ?_, ?_, ?_, ?_⟩ <;> decide +kernel

/-- The second paper is that after one turn of the loop. -/
theorem witness_AdmissionRaisesTiers_asked :
    let pl : List Placement := [⟨⟨1, 0⟩, ⟨0, 0⟩⟩]
    let s := heavy 1 room
    let u := tight 1 room
    let v : State := { room with tiers := room.tiers.set 1 (room.tiers[1].set 0 ⟨0, some 60, some ⟨0, 1, .restoration, 500⟩, some 1⟩) }
    let asked (s : State) : Prop := s.canAsk 0 true = true ∧ s.screenExists ⟨0, 0⟩ = true ∧ s.headExists ⟨1, 0⟩ = true
      ∧ s.markedBy ⟨0, 0⟩ = none ∧ (s.right 0 1).atLeast .view = true ∧ s.privateToOther 1 0 = false ∧ s.connsAt ⟨0, 0⟩ = []
      ∧ s.isDue ⟨0, 0⟩ (.card .blank) = true ∧ (s.position ⟨0, 0⟩).lockTimer = none ∧ s.lowestFree = some 0
      ∧ s.headActive ⟨1, 0⟩ = true
    ((s.quiet ∧ s.Bounded) ∧ (u.quiet ∧ u.Bounded) ∧ v.quiet ∧ v.Bounded)
    ∧ (s.fits [] pl = false ∧ s.candidates [] pl ≠ [] ∧ room.fits [] pl = true)
    ∧ (asked s ∧ (s.tier ⟨1, 0⟩).change = none ∧ s.fits (s.raiseLoop pl 288 []) pl = true ∧ s.raiseLoop pl 288 [] ≠ []
      ∧ s.sourceLive 1 = true)
    ∧ (asked u ∧ (u.tier ⟨1, 0⟩).change = none ∧ u.fits [] pl = false
      ∧ (∀ b ∈ u.overflowing [] pl, u.tierLimit b ≤ (u.tier b).tier ∧ (u.tier b).change = none)
      ∧ u.drives 0 1 = false ∧ (u.claims 1).any (·.desk = 0) = false)
    ∧ (asked v ∧ (v.tier ⟨1, 0⟩).change ≠ none) := by
  refine ⟨⟨⟨quiet_of _ ?_, bounded_of _ ?_ ?_ ?_⟩, ⟨quiet_of _ ?_, bounded_of _ ?_ ?_ ?_⟩, quiet_of _ ?_, bounded_of _ ?_ ?_ ?_⟩, ?_⟩ <;>
    decide +kernel

/-- A desk that drives the source of a head that does not fit, by a record on another screen. -/
theorem witness_AdmissionRaisesTiers_driven :
    let pl : List Placement := [⟨⟨1, 0⟩, ⟨0, 0⟩⟩]
    let s : State := { tight 1 room with
      conns := [{ conn ⟨1, 0⟩ .waiting none with handle := 1, screen := ⟨0, 1⟩ }]
      controls := room.controls.set 1 ⟨.held .exclusive 0 0, []⟩, targets := room.targets.set 0 (some 1) }
    (s.quiet ∧ s.Bounded) ∧ s.canAsk 0 true = true ∧ s.screenExists ⟨0, 0⟩ = true ∧ s.headExists ⟨1, 0⟩ = true
      ∧ s.markedBy ⟨0, 0⟩ = none ∧ (s.right 0 1).atLeast .view = true ∧ s.privateToOther 1 0 = false ∧ s.connsAt ⟨0, 0⟩ = []
      ∧ s.isDue ⟨0, 0⟩ (.card .blank) = true ∧ (s.position ⟨0, 0⟩).lockTimer = none ∧ s.lowestFree = some 0
      ∧ s.headActive ⟨1, 0⟩ = true ∧ (s.tier ⟨1, 0⟩).change = none ∧ s.fits [] pl = false
      ∧ (∀ b ∈ s.overflowing [] pl, s.tierLimit b ≤ (s.tier b).tier ∧ (s.tier b).change = none)
      ∧ s.drives 0 1 = true ∧ s.conns.any (fun c => c.desk = 0 ∧ c.source = 1) = true := by
  refine ⟨⟨quiet_of _ ?_, bounded_of _ ?_ ?_ ?_⟩, ?_⟩ <;> decide +kernel

/-- A record at step 2 whose admission waits for a change of its own head: alone, with too high a charge, or with one more. -/
theorem witness_AdmissionRaisesTiers_decided :
    let record := newConn 0 ⟨0, 0⟩ ⟨1, 0⟩ .desk none none .desk
    let w : TierChange := ⟨0, 1, .admission 7, 500⟩
    let s (raw : Nat) (second : Option TierChange) : State := { asks 1 0 (showing record (.card .blank)) with
      admissions := [⟨7, .record 0, [⟨⟨1, 0⟩, ⟨0, 0⟩⟩], .own⟩]
      tiers := room.tiers.set 1 #v[⟨0, some raw, some w, some 1⟩, ⟨0, some 60, second, some 1⟩, .fresh 0, .fresh 0] }
    let off (s : State) : State := { s with admissions := [] }
    let last (s : State) : Bool := allHeads.all fun b => b = ⟨1, 0⟩ || !(s.tier b).change.any (·.origin = w.origin)
    let after (s : State) : State := s.setTier ⟨1, 0⟩ { s.tier ⟨1, 0⟩ with tier := w.new, change := none }
    let stands (s : State) : Prop := (s.deskLink 0).link.live = true
      ∧ s.stack 0 = { executing := some ⟨⟨7, .connect 0 1 0⟩, .inFlight⟩, waiting := none } ∧ s.conn? 0 = some record
      ∧ s.connsAt ⟨0, 0⟩ = [record] ∧ s.isDue ⟨0, 0⟩ (.card .blank) = true ∧ (s.position ⟨0, 0⟩).lockTimer = none
      ∧ s.admissions = [⟨7, .record 0, [⟨⟨1, 0⟩, ⟨0, 0⟩⟩], .own⟩] ∧ (s.tier ⟨1, 0⟩).change = some w
      ∧ s.headActive ⟨1, 0⟩ = true ∧ (s.sourceLink 1).link.live = true ∧ (0 : HeadIx).val < (s.sourceLink 1).headCount
      ∧ s.drives 0 1 = false ∧ (s.claims 1).any (·.desk = 0) = false
    (((off (s 200 none)).quiet ∧ (s 200 none).Bounded) ∧ ((off (s 708 none)).quiet ∧ (s 708 none).Bounded)
      ∧ (off (s 200 (some w))).quiet ∧ (s 200 (some w)).Bounded)
    ∧ (stands (s 200 none) ∧ last (s 200 none) = true ∧ (after (s 200 none)).fitsNow [⟨⟨1, 0⟩, ⟨0, 0⟩⟩] = true)
    ∧ (stands (s 708 none) ∧ last (s 708 none) = true ∧ (after (s 708 none)).fitsNow [⟨⟨1, 0⟩, ⟨0, 0⟩⟩] = false)
    ∧ (stands (s 200 (some w)) ∧ last (s 200 (some w)) = false) := by
  refine ⟨⟨⟨quiet_of _ ?_, bounded_of _ ?_ ?_ ?_⟩, ⟨quiet_of _ ?_, bounded_of _ ?_ ?_ ?_⟩, quiet_of _ ?_, bounded_of _ ?_ ?_ ?_⟩, ?_⟩ <;>
    decide +kernel

theorem witness_ReadmissionAndResumption :
    let off (s : State) : State := { s with readmissions := [], resumption := ⟨[], false, none, false⟩ }
    let listed (c : Conn) (t : Trigger) : State := { showing c (.card .noSignal) with readmissions := [⟨0, t⟩] }
    let waits := conn ⟨0, 0⟩ .waiting none
    let hidden := conn ⟨0, 0⟩ (.suspended .privacy) none
    let e : Conn := { conn ⟨1, 0⟩ (.suspended .budget) none with handle := 1, screen := ⟨1, 0⟩ }
    let c := conn ⟨0, 0⟩ (.suspended .budget) none
    let gone : State := { listed waits .headActive with deskLinks := room.deskLinks.set 0 (.fresh none) }
    let kept : State := { listed hidden .privacyChange with controls := room.controls.set 0 ⟨.held .priv 1 0, []⟩ }
    let small := tight 0 (listed waits .headActive)
    let one (s : State) : State := { s with conns := [c], readmissions := [], resumption := ⟨[0], false, none, true⟩ }
    let open_ : State := { one (listed c .headActive) with
      positions := room.positions.set 0 ⟨.card .bandwidth, none, none⟩ }
    let shut := tight 0 open_
    let two := tight 1 { open_ with conns := [c, e], resumption := ⟨[0, 1], false, none, true⟩ }
    let alone (s : State) (q : Conn) : Prop := s.conn? q.handle = some q ∧ s.connsAt q.screen = [q] ∧ q.inFlight = false ∧ q.prior = none
    let fits (u : State) (q : Conn) : Prop := u.headActive q.head = true ∧ (u.tier q.head).change = none
      ∧ u.fitsNow [⟨q.head, q.screen⟩] = true
    let fails (u : State) (q : Conn) : Prop := u.headActive q.head = true ∧ (u.tier q.head).change = none
      ∧ u.fitsNow [⟨q.head, q.screen⟩] = false
      ∧ ∀ g ∈ u.overflowing [] [⟨q.head, q.screen⟩], u.tierLimit g ≤ (u.tier g).tier ∧ (u.tier g).change = none
    (∀ s ∈ [listed waits .headActive, gone, kept, small, open_, shut, two], (off s).calm = true ∧ (s.conns.all (·.scan.isNone)) = true
      ∧ s.conns.Pairwise (fun a b => a.handle < b.handle))
    ∧ (alone (listed waits .headActive) waits ∧ fits (listed waits .headActive) waits
      ∧ (listed waits .headActive).privateToOther 0 0 = false ∧ ((listed waits .headActive).deskLink 0).link.live = true)
    ∧ ((gone.deskLink 0).link.live = false ∧ (kept.privateToOther 0 0 = true ∧ alone kept hidden))
    ∧ (let a := conn ⟨0, 1⟩ .waiting none
      (off (listed a .headActive)).calm = true ∧ alone (listed a .headActive) a ∧ (listed a .headActive).headActive a.head = false)
    ∧ (alone small waits ∧ fails small waits)
    ∧ (alone open_ c ∧ fits open_ c) ∧ (alone shut c ∧ fails shut c ∧ shut.isDue ⟨0, 0⟩ (shut.contentDue c) = true)
    ∧ (alone two c ∧ alone two e ∧ c.handle < e.handle ∧ fits two c
      ∧ fails { two with conns := two.conns.map fun q => if q.handle = c.handle then { q with state := .switching } else q } e) := by
  refine ⟨?_, ?_, ⟨?_, ?_⟩, ?_, ?_, ?_, ?_, ?_⟩ <;> decide +kernel

/-- A commit of slot 0 with a new head, a blank, and a screen that shows its head already. -/
theorem witness_CommitTakesEffect_event :
    let es : List SlotEntry := [⟨⟨⟨0, 0⟩, .head ⟨0, 0⟩⟩, true, true⟩, ⟨⟨⟨0, 1⟩, .head ⟨1, 0⟩⟩, true, true⟩,
      ⟨⟨⟨0, 2⟩, .head ⟨1, 1⟩⟩, false, true⟩, ⟨⟨⟨0, 3⟩, .blank⟩, false, true⟩]
    let s : State := { scanningRoom [⟨0, 0⟩, ⟨1, 0⟩] with
      conns := [scanning, { scanning with handle := 1, screen := ⟨1, 0⟩ }]
      command := some (.commit 0)
      slots := room.slots.set 0 { Slot.fresh with
        state := .committing, owner := some .supervisor, entries := es, stage := some .beforeEvent }
      positions := ((viewing.positions.set 1 ⟨.card .blank, some (.route ⟨1, 0⟩), none⟩).set 2
        ⟨.card .blank, some (.card .noSignal), none⟩) }
    let others : State := { s with
      command := none, slots := s.slots.set 0 .fresh, conns := s.conns.map fun a => { a with auto := none, scan := none } }
    (others.quiet ∧ s.Bounded) ∧ (s.slot 0).state = .committing ∧ (s.slot 0).owner = some .supervisor ∧ (s.slot 0).arming = none
      ∧ (s.slot 0).touched = false ∧ (s.slot 0).commitDue = false ∧ s.command = some (.commit 0) ∧ (s.slot 0).entries = es
      ∧ (s.slot 0).stage = some .beforeEvent ∧ (s.slot 0).awaiting = [] ∧ (s.slot 0).faults = 0 ∧ (es.map (·.entry.screen)).Nodup
      ∧ (∀ e ∈ es, e.marks = true ∧ s.isDue e.entry.screen (s.entryContent e) = true)
      ∧ (∀ e ∈ es, e.charged = (e.entry.target.head?.any fun h => s.headActive h && (s.deskLink e.entry.screen.desk).link.live
        && !s.privateToOther h.source e.entry.screen.desk))
      ∧ (∀ a ∈ s.conns, a.inFlight = false ∧ a.auto = none ∧ a.state ≠ .admitting ∧ s.drives a.desk a.source = false
        ∧ (s.claims a.source).any (·.desk = a.desk) = false ∧ s.connsAt a.screen = [a])
      ∧ s.conns.length + es.length ≤ 64 := by
  refine ⟨⟨quiet_of _ ?_, bounded_of _ ?_ ?_ ?_⟩, ?_⟩ <;> decide +kernel

theorem witness_CommitTakesEffect_end :
    let c : Conn := { conn ⟨0, 0⟩ .switching (some .lock) with auto := some .commit }
    let es : List SlotEntry := [⟨⟨⟨0, 0⟩, .head ⟨0, 0⟩⟩, false, true⟩]
    let s : State := { room with
      conns := [c]
      positions := room.positions.set 0 ⟨.route ⟨0, 0⟩, none, some 400⟩
      command := some (.commit 0)
      slots := room.slots.set 0 { Slot.fresh with
        state := .committing, owner := some .supervisor, entries := es, stage := some .afterEvent, awaiting := [0] } }
    let others : State := { s with
      command := none, slots := s.slots.set 0 .fresh, conns := s.conns.map fun a => { a with auto := none, scan := none } }
    (others.quiet ∧ s.Bounded) ∧ (s.slot 0).state = .committing ∧ (s.slot 0).owner = some .supervisor ∧ (s.slot 0).arming = none
      ∧ (s.slot 0).touched = false ∧ (s.slot 0).commitDue = false ∧ s.command = some (.commit 0) ∧ (s.slot 0).entries = es
      ∧ (s.slot 0).stage = some .afterEvent ∧ (s.slot 0).awaiting = [c.handle] ∧ s.connsAt ⟨0, 0⟩ = [c]
      ∧ s.conn? c.handle = some c ∧ c.state = .switching ∧ c.answerTo = none ∧ c.scan = none ∧ (s.position ⟨0, 0⟩).lockTimer = some 400
      ∧ (s.deskLink 0).link.live = true ∧ s.screenExists ⟨0, 0⟩ = true := by
  refine ⟨⟨quiet_of _ ?_, bounded_of _ ?_ ?_ ?_⟩, ?_⟩ <;> decide +kernel

/-- A replacement in flight freezes the dwell of the record it names (R143), and a record of another screen that names the same handle
does not. -/
theorem test_frozen_scan_bits :
    let k : Scan := ⟨[⟨0, 0⟩, ⟨1, 0⟩], 1, 10, .frozen 77, false⟩
    let r := replacing ⟨1, 0⟩ .switching .desk
    (full r (.route ⟨1, 0⟩)).freezing scanning k = [false, false, false, true, false]
      ∧ (full { r with screen := ⟨1, 0⟩ } (.route ⟨1, 0⟩)).freezing scanning k = [false, false, false, false, false] := by
  decide +kernel

/-- A record and its replacement on the screen, one desk that drives one source, and a list that does not fit one frame. -/
theorem witness_ReportsHold :
    let s := full (replacing ⟨1, 0⟩ .switching .desk) (.route ⟨1, 0⟩)
    s.Bounded ∧ s.connsAt ⟨0, 0⟩ = s.conns
      ∧ (∀ c ∈ s.conns, if c.replaces.isSome then c.handle = 64 + (0 : Desk) else c.handle < 64)
      ∧ ((allSources.find? fun y => (held.control y).drivers.contains 1) = some 0
        ∧ ∀ z, (held.control z).drivers.contains 1 = true → z = 0) ∧ held.Bounded := by
  refine ⟨bounded_of _ ?_ ?_ ?_, ?_, ?_, ?_, bounded_of _ ?_ ?_ ?_⟩ <;> decide +kernel

end Sys2Proof.Tests
end

section
/-!
PROOF. Charges round up (R50, R51): `rawCharge` and `tierCharge` are Mathlib's rounded-up quotient `⌈/⌉`, so what the
manual says of the two charges follows from the two-sided bound of that quotient.
-/

namespace Sys2Proof.Machine

/-! ## The rounded-up quotient -/

/-- The other bound, `n ≤ d * (n ⌈/⌉ d)`, is Mathlib's `le_smul_ceilDiv`. -/
theorem mul_ceilDiv_lt_add {n d : Nat} (hd : 0 < d) : d * (n ⌈/⌉ d) < n + d := by
  have h : d * (n ⌈/⌉ d) ≤ n + d - 1 := Nat.mul_div_le (n + d - 1) d
  omega

/-! ## The raw charge (R50) -/

theorem rawCharge_eq_ceilDiv (f : Format) : rawCharge f = (f.width * f.height * f.refresh * f.depth) ⌈/⌉ 50000000 := by
  rw [Nat.ceilDiv_eq_add_pred_div, Nat.add_sub_assoc (by decide), rawCharge]

theorem product_le_mul_rawCharge (f : Format) : f.width * f.height * f.refresh * f.depth ≤ 50000000 * rawCharge f := by
  rw [rawCharge_eq_ceilDiv]
  exact le_smul_ceilDiv (show 0 < 50000000 by decide)

theorem mul_rawCharge_lt (f : Format) : 50000000 * rawCharge f < f.width * f.height * f.refresh * f.depth + 50000000 := by
  rw [rawCharge_eq_ceilDiv]
  exact mul_ceilDiv_lt_add (by decide)

/-- The products at the two ends of the format ranges are those of R50. -/
theorem format_product_bounds {w h r d : Nat} (hw : 640 ≤ w ∧ w ≤ 4096) (hh : 480 ≤ h ∧ h ≤ 2400)
    (hr : 24 ≤ r ∧ r ≤ 120) (hd : 18 ≤ d ∧ d ≤ 30) : 132710400 ≤ w * h * r * d ∧ w * h * r * d ≤ 35389440000 :=
  ⟨Nat.mul_le_mul (Nat.mul_le_mul (Nat.mul_le_mul hw.1 hh.1) hr.1) hd.1,
    Nat.mul_le_mul (Nat.mul_le_mul (Nat.mul_le_mul hw.2 hh.2) hr.2) hd.2⟩

theorem rawCharge_bounds {f : Format} (hw : 640 ≤ f.width ∧ f.width ≤ 4096) (hh : 480 ≤ f.height ∧ f.height ≤ 2400)
    (hr : 24 ≤ f.refresh ∧ f.refresh ≤ 120) (hd : 18 ≤ f.depth ∧ f.depth ≤ 30) : 3 ≤ rawCharge f ∧ rawCharge f ≤ 708 := by
  obtain ⟨least, greatest⟩ := format_product_bounds hw hh hr hd
  have lower := product_le_mul_rawCharge f
  have upper := mul_rawCharge_lt f
  constructor <;> omega

/-! ## The tier charge (R51) -/

theorem divisor_eq_getElem (t : Tier) : [1, 2, 4, 8][t] = divisor t := by
  fin_cases t <;> rfl

theorem divisor_pos (t : Tier) : 0 < divisor t := Nat.two_pow_pos t.val

theorem divisor_mono {t u : Tier} (h : t ≤ u) : divisor t ≤ divisor u := Nat.pow_le_pow_right (by decide) h

theorem tierCharge_eq_ceilDiv (raw : Nat) (t : Tier) : tierCharge raw t = raw ⌈/⌉ divisor t := rfl

theorem tierCharge_le_iff {raw n : Nat} {t : Tier} : tierCharge raw t ≤ n ↔ raw ≤ divisor t * n := by
  rw [tierCharge_eq_ceilDiv, ceilDiv_le_iff_le_mul (divisor_pos t)]

theorem le_divisor_mul_tierCharge (raw : Nat) (t : Tier) : raw ≤ divisor t * tierCharge raw t :=
  tierCharge_le_iff.mp le_rfl

theorem divisor_mul_tierCharge_lt (raw : Nat) (t : Tier) : divisor t * tierCharge raw t < raw + divisor t := by
  rw [tierCharge_eq_ceilDiv]
  exact mul_ceilDiv_lt_add (divisor_pos t)

theorem tierCharge_pos {raw : Nat} (h : 0 < raw) (t : Tier) : 0 < tierCharge raw t :=
  Nat.pos_of_mul_pos_left (h.trans_le (le_divisor_mul_tierCharge raw t))

theorem tierCharge_le_raw (raw : Nat) (t : Tier) : tierCharge raw t ≤ raw :=
  tierCharge_le_iff.mpr (Nat.le_mul_of_pos_left raw (divisor_pos t))

/-- The charge at the lower tier, taken `divisor u` times, covers the raw charge: it covers it taken `divisor t` times. -/
theorem tierCharge_antitone (raw : Nat) {t u : Tier} (h : t ≤ u) : tierCharge raw u ≤ tierCharge raw t :=
  tierCharge_le_iff.mpr <| calc
    raw ≤ divisor t * tierCharge raw t := le_divisor_mul_tierCharge raw t
    _ ≤ divisor u * tierCharge raw t := Nat.mul_le_mul_right _ (divisor_mono h)

theorem TierRecord.chargeAt_of_raw {r : TierRecord} {raw : Nat} (h : r.raw = some raw) (t : Tier) :
    r.chargeAt t = tierCharge raw t := by
  simp only [TierRecord.chargeAt, h]

/-- Settles O12, from the bounds of the two rounded-up quotients. -/
theorem chargesRoundUp : Obligations.ChargesRoundUp := by
  intro f r raw
  refine ⟨product_le_mul_rawCharge f, mul_rawCharge_lt f, ?rawInRange, ?atTiers⟩
  case rawInRange =>
    intro hw hw' hh hh' hr hr' depth
    exact rawCharge_bounds ⟨hw, hw'⟩ ⟨hh, hh'⟩ ⟨hr, hr'⟩ (by omega)
  case atTiers =>
    intro hraw least greatest
    simp only [TierRecord.chargeAt_of_raw hraw, divisor_eq_getElem]
    exact ⟨fun t => ⟨le_divisor_mul_tierCharge raw t, divisor_mul_tierCharge_lt raw t,
        tierCharge_pos (by omega) t, (tierCharge_le_raw raw t).trans greatest⟩,
      fun _ _ => tierCharge_antitone raw⟩

end Sys2Proof.Machine
end

section
/-!
PROOF. SAVE_SETTINGS (R186): what the command begins and what its read-back completes are written out as states, and the work at the
end of the taking leaves the settings, the region and the operation of such a state as they are.
-/

namespace Sys2Proof.Machine

variable {s : State}

/-! ## What the end of a taking leaves as it is -/

theorem State.settle_fixed (s : State) : s.settle.fixed = s.fixed := (Inner.refl s).settle.fixed

@[simp] theorem State.settle_settings (s : State) : s.settle.settings = s.settings := congrArg Fixed.settings s.settle_fixed
@[simp] theorem State.settle_region (s : State) : s.settle.store.region = s.store.region := congrArg Fixed.region s.settle_fixed
@[simp] theorem State.settle_regionCheck (s : State) : s.settle.store.regionCheck = s.store.regionCheck :=
  congrArg Fixed.regionCheck s.settle_fixed
@[simp] theorem State.settle_settingsGood (s : State) : s.settle.store.settingsGood = s.store.settingsGood :=
  congrArg Fixed.settingsGood s.settle_fixed
@[simp] theorem State.settle_op (s : State) : s.settle.store.op = s.store.op := congrArg Fixed.op s.settle_fixed

theorem State.settle_marks_store (h : s.marks.store = true) : s.settle.marks.store = true := (Inner.refl s).settle.marks.store h

/-- A frame sent last before the end of a taking stands among the frames that the taking adds. -/
theorem State.mem_drop_settle_sent {l : List Sent} {x : Sent} (h : s.sent = l ++ [x]) : x ∈ s.settle.sent.drop l.length := by
  obtain ⟨rest, hrest⟩ := (Inner.refl s).settle.sent
  rw [← hrest, h, List.append_assoc, List.drop_left]
  exact List.mem_cons_self

/-- A calm room in which nothing scans is left as it is, whatever command is in progress. -/
theorem Calm.settle_of_noScan (h : Calm s) (noScan : ∀ c ∈ s.conns, c.scan = none) : s.settle = s :=
  h.settle.trans (State.refreshScans_of_noScan noScan)

/-! ## The shared parts of the commands -/

theorem State.take_of_powered (h : s.powered = true) (f : State → State) : s.take f = .next (f s).settle := if_pos h

/-- With no command in progress an accepted supervisory frame is heard and carried out (R168). -/
theorem State.onSupervisor_of_free (h : s.command = none) (kind : Byte) (f : State → State) :
    s.onSupervisor kind f = f s.heardSupervisor := by
  have free : ¬ (s.setReceiver .supervisory .hunting).command.isSome = true := by
    simp only [State.setReceiver, h, Option.isSome_none, Bool.false_eq_true, not_false_eq_true]
  exact if_neg free

theorem State.answerCommand_of_some {c : Command} (h : s.command = some c) (o : ResponseOutcome) (d : Detail) (data : List Byte) :
    s.answerCommand o d data = { s.answered c.kind o d data with command := none } := by
  simp only [State.answerCommand, h]
  rfl

/-! ## What start-up loads from the region (R190) -/

theorem Store.settingsAtStart_of_check {r : Store} (h : r.regionCheck = some (checkValue r.region.image)) :
    r.settingsAtStart = r.region := if_pos (decide_eq_true h)

/-- A region whose check value is invalidated is loaded by no start-up. -/
theorem Store.settingsAtStart_of_invalidated {r : Store} (h : r.regionCheck = none) : r.settingsAtStart = .factory := by
  simp only [Store.settingsAtStart, Store.regionMatches, h, reduceCtorEq, decide_false, Bool.false_eq_true, if_false]

/-! ## The command begins (R186) -/

/-- A free supervisory line that has heard SAVE_SETTINGS. -/
def State.savingSettings (s : State) : State := { s.heardSupervisor with
  store := { s.store with op := some (.saveSettings s.settings), regionCheck := none }
  command := some .saveSettings }

theorem exec_saveSettings_eq (payload : List Byte) (s : State) : exec (.saveSettings payload) s = execSaveSettings payload s := rfl

theorem exec_saveSettings (powered : s.powered = true) (free : s.command = none) :
    exec (.saveSettings []) s = .next s.savingSettings.settle := by
  rw [exec_saveSettings_eq, execSaveSettings, State.onCommand, State.take_of_powered powered, State.onSupervisor_of_free free]
  rfl

/-- SAVE_SETTINGS leaves nothing due in a calm room: the command that it puts in progress waits at no step 1. -/
theorem Calm.savingSettings (h : Calm s) : Calm s.savingSettings where
  powered := h.powered
  admissions := h.admissions
  readmissions := h.readmissions
  reports := h.reports
  movedTargets := h.movedTargets
  command := rfl
  list := h.list
  running := h.running
  due := h.due
  walk := h.walk
  delay := h.delay
  slots := h.slots
  stack := h.stack
  conns := h.conns

theorem State.quiet.settle_savingSettings (h : s.quiet) : s.savingSettings.settle = s.savingSettings := by
  obtain ⟨calm, noScan⟩ := h
  exact (Calm.of calm).savingSettings.settle_of_noScan noScan

theorem saveSettings_begins (powered : s.powered = true) (free : s.command = none) :
    Runs (.saveSettings []) s fun t =>
      t.store.op = some (.saveSettings s.settings) ∧ (s.quiet → t.command = some .saveSettings)
      ∧ t.store.region = s.store.region
      ∧ t.store.regionCheck = none ∧ t.store.settingsAtStart = .factory ∧ t.settings = s.settings := by
  have check : s.savingSettings.settle.store.regionCheck = none := State.settle_regionCheck _
  refine ⟨_, exec_saveSettings powered free, State.settle_op _, fun quiet => ?inProgress, State.settle_region _, check,
    Store.settingsAtStart_of_invalidated check, State.settle_settings _⟩
  case inProgress =>
    rw [quiet.settle_savingSettings]
    rfl

/-! ## The read-back completes it (R186) -/

/-- The operation is over with what its read-back leaves of the region, and the store is marked. -/
def State.regionRead (s : State) (r : Store) : State :=
  { s with store := { r with op := none }, marks := { s.marks with store := true } }

/-- The end of SAVE_SETTINGS: the region is read back, and the command answered. -/
def State.settingsSaveEnded (s : State) (r : Store) (o : ResponseOutcome) (d : Detail) : State :=
  { (s.regionRead r).answered 0x48 o d [] with command := none }

/-- The store with an image and its check value, read back as they were written. -/
def Store.withSettings (r : Store) (k : Settings) : Store :=
  { r with region := k, regionCheck := some (checkValue k.image), settingsGood := true }

/-- The store with a region that its read-back has found not to match. -/
def Store.withoutSettings (r : Store) : Store := { r with regionCheck := none, settingsGood := false }

theorem State.settingsSaved_true {k : Settings} (saving : s.store.op = some (.saveSettings k)) :
    s.settingsSaved true = (s.regionRead (s.store.withSettings k)).answerCommand .done .noDetail [] := by
  rw [State.settingsSaved, saving]
  rfl

theorem State.settingsSaved_false {k : Settings} (saving : s.store.op = some (.saveSettings k)) :
    s.settingsSaved false = (s.regionRead s.store.withoutSettings).answerCommand .failed .verifyFailed [] := by
  rw [State.settingsSaved, saving]
  rfl

theorem State.regionRead_answerCommand (command : s.command = some .saveSettings) (r : Store) (o : ResponseOutcome) (d : Detail) :
    (s.regionRead r).answerCommand o d [] = s.settingsSaveEnded r o d :=
  State.answerCommand_of_some (s := s.regionRead r) command o d []

theorem exec_settingsSaveComplete_eq (matched : Bool) (s : State) :
    exec (.settingsSaveComplete matched) s = execSettingsSaveComplete matched s := rfl

theorem exec_settingsSaveComplete (powered : s.powered = true) (matched : Bool) :
    exec (.settingsSaveComplete matched) s = .next (s.settingsSaved matched).settle := by
  rw [exec_settingsSaveComplete_eq, execSettingsSaveComplete, State.take_of_powered powered]

section
variable {k : Settings} (powered : s.powered = true) (saving : s.store.op = some (.saveSettings k))
  (command : s.command = some .saveSettings)
include powered saving command

theorem exec_settingsSaveComplete_true :
    exec (.settingsSaveComplete true) s = .next (s.settingsSaveEnded (s.store.withSettings k) .done .noDetail).settle := by
  rw [exec_settingsSaveComplete powered, State.settingsSaved_true saving, State.regionRead_answerCommand command]

theorem exec_settingsSaveComplete_false :
    exec (.settingsSaveComplete false) s = .next (s.settingsSaveEnded s.store.withoutSettings .failed .verifyFailed).settle := by
  rw [exec_settingsSaveComplete powered, State.settingsSaved_false saving, State.regionRead_answerCommand command]

theorem settingsSaveComplete_matched :
    Runs (.settingsSaveComplete true) s fun t =>
      t.store.region = k ∧ t.store.regionCheck = some (checkValue k.image) ∧ t.store.settingsAtStart = k
      ∧ t.store.settingsGood = true ∧ t.store.op = none ∧ .supervisory ⟨.done, 0x48, .noDetail, []⟩ ∈ t.sent
      ∧ t.marks.store = true ∧ t.settings = s.settings := by
  refine ⟨_, exec_settingsSaveComplete_true powered saving command, ?_⟩
  set u := s.settingsSaveEnded (s.store.withSettings k) .done .noDetail
  have region : u.settle.store.region = k := u.settle_region
  have check : u.settle.store.regionCheck = some (checkValue k.image) := u.settle_regionCheck
  have loaded : u.settle.store.settingsAtStart = k := by
    rw [Store.settingsAtStart_of_check (by rw [check, region]), region]
  exact ⟨region, check, loaded, u.settle_settingsGood, u.settle_op,
    List.mem_of_mem_drop (State.mem_drop_settle_sent (l := s.sent) rfl), State.settle_marks_store rfl, u.settle_settings⟩

theorem settingsSaveComplete_mismatched :
    Runs (.settingsSaveComplete false) s fun t =>
      t.store.settingsGood = false ∧ t.store.op = none ∧ t.store.settingsAtStart = .factory
      ∧ .supervisory ⟨.failed, 0x48, .verifyFailed, []⟩ ∈ t.sent.drop s.sent.length
      ∧ t.marks.store = true ∧ t.settings = s.settings := by
  refine ⟨_, exec_settingsSaveComplete_false powered saving command, ?_⟩
  set u := s.settingsSaveEnded s.store.withoutSettings .failed .verifyFailed
  exact ⟨u.settle_settingsGood, u.settle_op, Store.settingsAtStart_of_invalidated u.settle_regionCheck,
    State.mem_drop_settle_sent rfl, State.settle_marks_store rfl, u.settle_settings⟩

end

/-- Settles O48: the states that the command and its two read-backs come to, each as the end of the taking leaves it. -/
theorem settingsAreSaved : Obligations.SettingsAreSaved := by
  intro s k powered
  refine ⟨saveSettings_begins powered, fun saving command =>
    ⟨settingsSaveComplete_matched powered saving command, ?mismatched⟩⟩
  case mismatched =>
    obtain ⟨t, run, state, op, loaded, answer, mark, settings⟩ := settingsSaveComplete_mismatched powered saving command
    exact ⟨t, run, state, op, loaded, List.any_eq_true.mpr ⟨_, answer, rfl⟩, mark, settings⟩

end Sys2Proof.Machine
end
